-- ==== Sys2Proof/Word.lean ====
section
/-! DEFINITION. The widths of the block's quantities (00_scope.md R6, 20_memory.md R40, 30_encoding.md R60). -/

namespace Sys2Proof

/-- One byte: every access of the block moves exactly one (R40). -/
abbrev Byte := BitVec 8

/-- A memory address of the host or of the secondary CPU (R41, R43). -/
abbrev Addr := BitVec 16

/-- A port address: low byte = port number, high byte = upper address byte (R42). -/
abbrev Port := BitVec 16

/-- A clock rate in kHz (R20). -/
abbrev KHz := BitVec 16

/-- A transaction word `kind[27:24] a[23:8] d[7:0]` (R60). -/
abbrev TxWord := BitVec 28

end Sys2Proof
end

