-- ==== Sys2Proof/Config.lean ====
section
/-! DEFINITION. The implementation parameters of 00_scope.md rule R5, the free values the spec leaves open
(93_implementation_defined.md U1, U6, U7), and the configuration of `State.reset`. -/

namespace Sys2Proof

/-- The legal window sizes, "8K/16K/32K/64K" (R5, table 4.2). -/
inductive WindowSize where
  | k8 | k16 | k32 | k64
  deriving DecidableEq, Repr

/-- `W` in bytes. -/
def WindowSize.bytes : WindowSize → Nat
  | .k8 => 0x2000
  | .k16 => 0x4000
  | .k32 => 0x8000
  | .k64 => 0x10000

/-- The window-decoder parameters of a module with a memory window (R5, table 4.2). -/
structure Decoder where
  /-- `W` -/
  window : WindowSize
  /-- `windowAlignMask` -/
  alignMask : BitVec 16
  /-- `N` -/
  storeSize : Nat
  /-- `segShift` -/
  segShift : Nat
  /-- `backingStoreMask` -/
  storeMask : Nat
  deriving DecidableEq, Repr

/-- The closed set of module kinds (R111, D39). A ROM image lists the bytes the configuration names; a byte it does
not list is a free constant (`Config.imageByte`, log 5). -/
inductive ModuleKind where
  | rom (dec : Decoder) (image : List Host.Cell)
  | ram (dec : Decoder) (weBit : Fin 8)
  | peripheral
  | ds
  deriving DecidableEq, Repr

/-- One element of `MODS`: a module's constants (R5, table 4.2; R15). -/
structure ModuleParams where
  slotId : Byte
  typeByte : Byte
  switchable : Bool
  /-- `INIT_STATUS` -/
  initStatus : Byte
  kind : ModuleKind
  deriving DecidableEq, Repr

/-- `ROM_WRITE_OUTCOME` (R5, R108, D10). -/
inductive RomWriteOutcome where
  | notHandled | handledBlocked
  deriving DecidableEq, Repr

/-- The four edge-triggered bits of the disk-station control port (R16): bits 0 to 3 in this order. -/
inductive CtrlBit where
  | enable | stop | reset | nmi
  deriving DecidableEq, Repr

/-- The bit number of a control bit (R16). -/
def CtrlBit.index : CtrlBit → Nat
  | .enable => 0
  | .stop => 1
  | .reset => 2
  | .nmi => 3

/-- `DS_ROM_W`, the window size of the `BASE` variant: 8K or 16K (R5, table 4.3). -/
inductive DsRomWindow where
  | k8 | k16
  deriving DecidableEq, Repr

/-- `PAGE_LAYOUT` (R19): `A` has the enable bit in bit 7, `B` in bit 0. -/
inductive PageLayout where
  | A | B
  deriving DecidableEq, Repr

/-- `AFTERGLOW_RESCALE` (R165, D23). -/
inductive AfterglowMode where
  | rescale | keep
  deriving DecidableEq, Repr

/-- The parameters only the `EXT` variant has (R5, table 4.3). `DS2_BANK_MASK` is no field: rule R180 fixes it
at `3 * W` (90_conflicts.md C11). -/
structure ExtParams where
  /-- `DS2_BANK_SHIFT` -/
  bankShift : Nat
  /-- `DMA_ACT_PORTS` -/
  dmaActPorts : List Byte
  /-- `PAGE_PORT` -/
  pagePort : Byte
  /-- `PAGE_WINDOW_BASE` -/
  pageWindowBase : Addr
  /-- `PAGE_LAYOUT` -/
  pageLayout : PageLayout
  /-- `SPEED_A_KHZ` -/
  speedA : KHz
  /-- `SPEED_B_KHZ` -/
  speedB : KHz
  /-- `DS2_CLK_BIT` -/
  clkBit : Fin 8
  deriving DecidableEq, Repr

/-- `DS_VARIANT` (R2), with the parameters of the variant. -/
inductive DsVariant where
  | base
  | ext (e : ExtParams)
  deriving DecidableEq, Repr

/-- The disk-station parameters (R5, table 4.3). `DS_SLOT` and `DS_TYPE_BYTE` are the `slotId` and `typeByte` of the
module of kind `ds` (log 12). -/
structure DsParams where
  variant : DsVariant
  /-- `DS_CONNECT_BIT` -/
  connectBit : Fin 8
  /-- `DS_CTRL_PORT` -/
  ctrlPort : Byte
  /-- `DS_CTRL_NEEDS_CONNECT` -/
  ctrlNeedsConnect : Bool
  /-- `DS_ROM_W` -/
  romWindow : DsRomWindow
  /-- `DS_ROM_ALIGN_MASK` -/
  romAlignMask : BitVec 16
  /-- `DS_ROM_IMAGE`, as the images of `ModuleKind.rom` -/
  romImage : List Host.Cell
  /-- `CTRL_EDGE_ORDER` -/
  edgeOrder : List CtrlBit
  /-- `HOST_RESET_STOPS_SECONDARY` -/
  hostResetStops : Bool
  /-- `SEC_RESET_VECTOR`, a property of the external CPU (R12) -/
  resetVector : Addr
  /-- `GIDE_PRESENT` -/
  gidePresent : Bool
  /-- `DRVSEL_PORT` -/
  drvselPort : Byte
  /-- `GIDE_ACT_PORTS` -/
  gideActPorts : List Byte
  /-- `SPEED_INIT_KHZ` -/
  speedInit : KHz
  /-- `FIXED_SPEED_KHZ` -/
  fixedSpeed : Option KHz
  /-- `AFTERGLOW_RESCALE` -/
  afterglow : AfterglowMode
  deriving DecidableEq, Repr

/-- The parameters of the block that are not per module (R5, tables 4.1 and 4.3); `ds = none` is
`DS_PRESENT = false`. `MODS` is the list of `ModuleParams` beside it. -/
structure Config where
  /-- `STATUS_PORT` -/
  statusPort : Byte
  romWriteOutcome : RomWriteOutcome
  ds : Option DsParams
  deriving DecidableEq, Repr

/-- `FILL`, the all-ones byte an unclaimed read returns, memory or I/O (R5, R80, R82; D5). -/
def fillByte : Byte := 0xFF

/-- First port number of the bridge, `BRIDGE_PORT_BASE` (R5, R48). -/
def bridgePortBase : Byte := 0xF0

/-- First secondary address of the bridge window, `BRIDGE_MEM_BASE` (R5, R48); the cold clear ends below it (R124). -/
def bridgeMemBase : Nat := 0xFC00

/-- `DS_ROM_W` in bytes. -/
def DsRomWindow.bytes : DsRomWindow → Nat
  | .k8 => 0x2000
  | .k16 => 0x4000

/-- The `EXT` parameters, when the variant is `EXT`. -/
def DsParams.ext? (d : DsParams) : Option ExtParams :=
  match d.variant with
  | .base => none
  | .ext e => some e

/-- Which byte array an unwritten byte belongs to (R56). -/
inductive StoreId where
  | module (slotId : Byte)
  | secMem
  | pageRam
  deriving DecidableEq, Repr

/-- FREE VALUE (U1, R56; log 3): what the byte at an index of an array holds before anything has written it. -/
opaque Config.powerUpByte : StoreId → Nat → Byte

/-- FREE VALUE (U19; log 5): the image byte of the ROM in a slot at an index its configuration does not list. -/
opaque Config.imageByte : Byte → Nat → Byte

/-- FREE VALUE (U6, R148; log 7): the value of a secondary I/O read, by arrival number and port. -/
opaque Config.chipIoRead : Nat → Port → Byte

/-- FREE VALUE (U7, R82; log 6): whether the peripheral module in a slot claims a read, by arrival number, slot,
status byte and low port byte. -/
opaque Config.peripheralClaimsRead : Nat → Byte → Byte → Byte → Bool

/-- FREE VALUE (U7, R82; log 6): the byte a claiming peripheral module answers, by arrival number, slot, status byte
and port. -/
opaque Config.peripheralReads : Nat → Byte → Byte → Port → Byte

/-- FREE VALUE (U7, R83; log 6): whether the peripheral module in a slot claims a write. -/
opaque Config.peripheralClaimsWrite : Nat → Byte → Byte → Byte → Bool

/-! ## The configuration of `State.reset`

DESIGN CHOICE (log 2): the illustrative configuration CFG-T of 95_test_vectors.md section 0 in its `EXT` variant, the one
under which every row of the opcode table has a word. Its ROM images are left open (log 5), and its reset vector is the model's (log 19). -/

/-- The illustrative record `ROM8` of R112. -/
def rom8 : Decoder :=
  { window := .k8, alignMask := 0xE000, storeSize := 0x2000, segShift := 0, storeMask := 0 }

/-- The illustrative record `RAM16` of R112. -/
def ram16 : Decoder :=
  { window := .k16, alignMask := 0xC000, storeSize := 0x4000, segShift := 0, storeMask := 0 }

/-- The illustrative record `SEG128` of R112. -/
def seg128 : Decoder :=
  { window := .k16, alignMask := 0xC000, storeSize := 0x20000, segShift := 12, storeMask := 0x1C000 }

/-- The illustrative record `RAM32` of R112. -/
def ram32 : Decoder :=
  { window := .k32, alignMask := 0x8000, storeSize := 0x8000, segShift := 0, storeMask := 0 }

/-- The illustrative record `RAM64` of R112. -/
def ram64 : Decoder :=
  { window := .k64, alignMask := 0x0000, storeSize := 0x10000, segShift := 0, storeMask := 0 }

/-- The `EXT` parameters of CFG-T. -/
def cfgTExt : ExtParams :=
  { bankShift := 12, dmaActPorts := [0xE0], pagePort := 0xEC, pageWindowBase := 0x4000, pageLayout := .A
    speedA := 4000, speedB := 8000, clkBit := 4 }

/-- The disk-station parameters of CFG-T, `EXT` variant. CFG-T gives `SEC_RESET_VECTOR` no value and R12 leaves it open.
DESIGN CHOICE (log 19): 0x0000 here, the value R5 names for a Z80. -/
def cfgTDs : DsParams :=
  { variant := .ext cfgTExt, connectBit := 2, ctrlPort := 0xF4, ctrlNeedsConnect := false
    romWindow := .k8, romAlignMask := 0x8000, romImage := [], edgeOrder := [.enable, .stop, .reset, .nmi]
    hostResetStops := false, resetVector := 0x0000, gidePresent := true, drvselPort := 0xF8
    gideActPorts := [0x05], speedInit := 4000, fixedSpeed := none, afterglow := .rescale }

/-- The configuration of `State.reset`. -/
def Config.cfgT : Config :=
  { statusPort := 0x80, romWriteOutcome := .notHandled, ds := some cfgTDs }

/-- `MODS` of CFG-T in installation order: A, B, S, R, N, DS. -/
def cfgTMods : List ModuleParams :=
  [ { slotId := 0x08, typeByte := 0x11, switchable := true, initStatus := 0x00, kind := .ram ram16 1 },
    { slotId := 0x0C, typeByte := 0x11, switchable := true, initStatus := 0x00, kind := .ram ram16 1 },
    { slotId := 0x10, typeByte := 0x22, switchable := true, initStatus := 0x00, kind := .ram seg128 1 },
    { slotId := 0x14, typeByte := 0x33, switchable := true, initStatus := 0x00, kind := .rom rom8 [] },
    { slotId := 0x18, typeByte := 0x44, switchable := false, initStatus := 0xE1, kind := .rom rom8 [] },
    { slotId := 0xFC, typeByte := 0xA7, switchable := true, initStatus := 0x00, kind := .ds } ]

end Sys2Proof
end

