-- ==== Sys2Proof/Syntax.lean ====
section
/-! DEFINITION. The 27 operations of 30_encoding.md rule R66 and who issues each (R61, R208). -/

namespace Sys2Proof

/-- One constructor per row of spec/opcode_table.json (R66). Operands are the fields of R60 and R63 that the
operation, or the transaction that carries it, uses; the data byte of a read is ignored (R60) and is no operand.
`encpu`, `stopcpu`, `rstcpu`, `nmicpu` are the four actions of a `dsctl`, no transactions of their own (R66, log 10). -/
inductive Instr where
  /-- `MRD addr` (R80) -/
  | mrd (addr : Addr)
  /-- `MWR addr, v` (R81) -/
  | mwr (addr : Addr) (v : Byte)
  /-- `TYPERD slot` (R84) -/
  | typerd (slot : Byte)
  /-- `BRRD`: the port `(portHigh, 0xF0 + page)` (R140) -/
  | brrd (page : BitVec 2) (portHigh : Byte)
  /-- `IORD port` (R82) -/
  | iord (port : Port)
  /-- `STATWR slot, v` (R85) -/
  | statwr (slot : Byte) (v : Byte)
  /-- `DSCTL v` carried by the port `(portHigh, DS_CTRL_PORT)` (R142) -/
  | dsctl (portHigh : Byte) (v : Byte)
  /-- `BRWR`: the port `(portHigh, 0xF0 + page)` (R141) -/
  | brwr (page : BitVec 2) (portHigh : Byte) (v : Byte)
  /-- `IOWR port, v` (R83) -/
  | iowr (port : Port) (v : Byte)
  /-- the action of a rising control bit 0 (R120) -/
  | encpu
  /-- the action of a rising control bit 1 (R121) -/
  | stopcpu
  /-- the action of a rising control bit 2 (R122) -/
  | rstcpu
  /-- the action of a rising control bit 3 (R123) -/
  | nmicpu
  /-- `HRESET` (R230) -/
  | hreset
  /-- `TICK` (R160) -/
  | tick
  /-- `SPEEDCHG khz` (R165) -/
  | speedchg (khz : KHz)
  /-- `SMRD addr` (R146, R182) -/
  | smrd (addr : Addr)
  /-- `SMWR addr, v` (R147, R183) -/
  | smwr (addr : Addr) (v : Byte)
  /-- `SIORD port` (R148) -/
  | siord (port : Port)
  /-- `DRVSEL v` carried by the port `(portHigh, DRVSEL_PORT)` (R166) -/
  | drvsel (portHigh : Byte) (v : Byte)
  /-- `GIDEACT port, v` (R161) -/
  | gideact (port : Port) (v : Byte)
  /-- `DMAACT port, v` (R185) -/
  | dmaact (port : Port) (v : Byte)
  /-- `PAGEWR v` carried by the port `(portHigh, PAGE_PORT)` (R181) -/
  | pagewr (portHigh : Byte) (v : Byte)
  /-- `SIOWR port, v` (R149) -/
  | siowr (port : Port) (v : Byte)
  /-- `LOOPENTER` (R124) -/
  | loopenter
  /-- `WEXIT` (R125) -/
  | wexit
  /-- `SFAULT` (R126) -/
  | sfault
  deriving DecidableEq, Repr

/-- The four issuers of transactions (R61, R208). -/
inductive Agent where
  | host | secondaryCpu | runControl | clock
  deriving DecidableEq, Repr

/-- Who issues an operation (R62, R208). -/
def Instr.agent : Instr → Agent
  | .mrd _ | .mwr _ _ | .typerd _ | .brrd _ _ | .iord _ | .statwr _ _ | .dsctl _ _ | .brwr _ _ _ | .iowr _ _ => .host
  | .encpu | .stopcpu | .rstcpu | .nmicpu | .hreset => .host
  | .tick | .speedchg _ => .clock
  | .smrd _ | .smwr _ _ | .siord _ => .secondaryCpu
  | .drvsel _ _ | .gideact _ _ | .dmaact _ _ | .pagewr _ _ | .siowr _ _ => .secondaryCpu
  | .loopenter | .wexit | .sfault => .runControl

/-- False for the four actions of a `DSCTL`, which are "not transactions of their own" (R66). -/
def Instr.isTransaction : Instr → Bool
  | .encpu | .stopcpu | .rstcpu | .nmicpu => false
  | .mrd _ | .mwr _ _ | .typerd _ | .brrd _ _ | .iord _ | .statwr _ _ | .dsctl _ _ | .brwr _ _ _ | .iowr _ _ => true
  | .hreset | .tick | .speedchg _ | .smrd _ | .smwr _ _ | .siord _ => true
  | .drvsel _ _ | .gideact _ _ | .dmaact _ _ | .pagewr _ _ | .siowr _ _ => true
  | .loopenter | .wexit | .sfault => true

/-- The operation that a control bit's rising edge triggers (R16, R142). -/
def CtrlBit.action : CtrlBit → Instr
  | .enable => .encpu
  | .stop => .stopcpu
  | .reset => .rstcpu
  | .nmi => .nmicpu

end Sys2Proof
end

