-- ==== Sys2Proof/Machine/Fields.lean ====
section
/-! DEFINITION. The fields of a transaction word and of a port address, and the port numbers the block decodes
(30_encoding.md R60, R63 to R65). -/

namespace Sys2Proof

/-- Bits 27:24 of a word (R60). -/
def txKind (w : TxWord) : BitVec 4 := w.extractLsb' 24 4

/-- Bits 23:8 of a word: an address, a port, or a speed (R60, R63). -/
def txAddr (w : TxWord) : BitVec 16 := w.extractLsb' 8 16

/-- Bits 7:0 of a word: the data byte (R60). -/
def txData (w : TxWord) : Byte := w.extractLsb' 0 8

/-- A word from its three fields (R60). -/
def txPack (kind : BitVec 4) (a : BitVec 16) (d : Byte) : TxWord := kind ++ a ++ d

/-- The low byte of a port address is the port number (R42, R63). -/
def portLow (p : Port) : Byte := p.extractLsb' 0 8

/-- The upper byte of a port address (R42, R63). -/
def portHigh (p : Port) : Byte := p.extractLsb' 8 8

/-- The four bridge port numbers `0xF0..0xF3` (R64, R140). -/
def isBridgePort (low : Byte) : Bool := low &&& 0xFC == bridgePortBase

/-- The port `{high, low}` (R6, R63). -/
def mkPort (high low : Byte) : Port := high ++ low

/-- The bridge port number with the given two low bits, `0xF0 + page` (R68, R140). -/
def bridgePort (page : BitVec 2) : Byte := (0x3C : BitVec 6) ++ page

/-- `GIDEACT` exists for this port (R65). -/
def DsParams.isGideAct (d : DsParams) (p : Port) : Bool := d.gidePresent && d.gideActPorts.contains (portLow p)

/-- `DMAACT` exists for this port (R65; `EXT` only). -/
def DsParams.isDmaAct (d : DsParams) (p : Port) : Bool :=
  match d.ext? with
  | none => false
  | some e => e.dmaActPorts.contains (portLow p)

/-- `PAGEWR` exists for this port (R65; `EXT` only). -/
def DsParams.isPagePort (d : DsParams) (p : Port) : Bool :=
  match d.ext? with
  | none => false
  | some e => portLow p == e.pagePort

/-- `DRVSEL` is this port's operation (R65). -/
def DsParams.isDrvsel (d : DsParams) (p : Port) : Bool := portLow p == d.drvselPort

/-- A port number the disk-station module may claim a write of (R64). -/
def DsParams.claimsWritePort (d : DsParams) (p : Port) : Bool := portLow p == d.ctrlPort || isBridgePort (portLow p)

end Sys2Proof
end

