-- ==== Sys2Proof/WellFormed.lean ====
section
/-! DEFINITION. The constraints of 00_scope.md rule R5 on a configuration, and which operations a configuration has
(30_encoding.md R62, R64, R65, R67). -/

namespace Sys2Proof

/-- Cells in the canonical order: addresses strictly rising. -/
def cellsRising : List Host.Cell → Bool
  | [] => true
  | [_] => true
  | c :: d :: rest => decide (c.1 < d.1) && cellsRising (d :: rest)

/-- Every address of a list of cells is below a bound. -/
def cellsBelow (n : Nat) (cells : List Host.Cell) : Bool := cells.all fun c => decide (c.1 < n)

/-- R5, table 4.2: a mask has no bit inside the window. -/
def maskAligned (mask window : Nat) : Bool := mask &&& (window - 1) == 0

/-- The constraints on a window decoder (R5, table 4.2). -/
def Decoder.wf (d : Decoder) : Bool :=
  maskAligned d.alignMask.toNat d.window.bytes
    && 2 ^ Nat.log2 d.storeSize == d.storeSize
    && decide (d.window.bytes ≤ d.storeSize)
    && decide (d.segShift ≤ 16)
    && decide (d.storeMask < d.storeSize)
    && maskAligned d.storeMask d.window.bytes

/-- The constraints on one module, kind `ds` apart (R5, table 4.2). -/
def ModuleParams.wf (p : ModuleParams) : Bool :=
  match p.kind with
  | .rom dec image => dec.wf && cellsRising image && cellsBelow dec.storeSize image
  | .ram dec _ => dec.wf
  | .peripheral => true
  | .ds => true

/-- `log2 W` of the `EXT` ROM window, `W = 4 * DS_ROM_W` (R180). -/
def DsParams.extWindowLog (d : DsParams) : Nat := Nat.log2 (4 * d.romWindow.bytes)

/-- The length of `DS_ROM_IMAGE`: `DS_ROM_W`, or `16 * DS_ROM_W` in `EXT` (R5). -/
def DsParams.romSize (d : DsParams) : Nat :=
  match d.variant with
  | .base => d.romWindow.bytes
  | .ext _ => 16 * d.romWindow.bytes

/-- The constraints on the `EXT` parameters (R5, table 4.3; R19). -/
def DsParams.extWf (d : DsParams) (e : ExtParams) : Bool :=
  decide (d.extWindowLog ≤ e.bankShift + 6)
    && decide (e.bankShift ≤ d.extWindowLog)
    && e.pageWindowBase &&& 0x3FFF == 0
    && e.speedA != 0
    && e.speedB != 0
    && decide (4 ≤ e.clkBit.val)
    && !(e.dmaActPorts.contains d.drvselPort)
    && !(e.dmaActPorts.any d.gideActPorts.contains)
    && e.pagePort != d.drvselPort
    && !(d.gideActPorts.contains e.pagePort)
    && !(e.dmaActPorts.contains e.pagePort)

/-- `CTRL_EDGE_ORDER` is a permutation of the four bits (R5, table 4.3). -/
def edgeOrderWf (o : List CtrlBit) : Bool :=
  o.length == 4 && o.contains .enable && o.contains .stop && o.contains .reset && o.contains .nmi

/-- The constraints on the disk-station parameters (R5, table 4.3). DESIGN CHOICE (log 17): "as `windowAlignMask`" bounds
`DS_ROM_ALIGN_MASK` by `DS_ROM_W` in both variants, not by the four times wider window that R180 masks it with again. -/
def DsParams.wf (d : DsParams) : Bool :=
  !(isBridgePort d.ctrlPort)
    && maskAligned d.romAlignMask.toNat d.romWindow.bytes
    && cellsRising d.romImage
    && cellsBelow d.romSize d.romImage
    && edgeOrderWf d.edgeOrder
    && (d.gidePresent || d.gideActPorts.isEmpty)
    && !(d.gideActPorts.contains d.drvselPort)
    && d.speedInit != 0
    && d.fixedSpeed != some 0
    && (match d.variant with
        | .base => true
        | .ext e => d.extWf e)

/-- The constraints on the parameters that are not per module (R5, tables 4.1 and 4.3). -/
def Config.wf (c : Config) : Bool :=
  !(isBridgePort c.statusPort)
    && (match c.ds with
        | none => true
        | some d => d.wf && c.statusPort != d.ctrlPort)

/-- The constraints on the modules of kind `ds`: at most one, only with `DS_PRESENT` (and one then, log 12), its slot
in `0xF0..0xFF`, its `INIT_STATUS` with the connect bit 0 (R5, R17). -/
def Config.dsModulesWf (c : Config) (ms : List ModuleParams) : Bool :=
  match c.ds with
  | none => (ms.filter (·.kind == .ds)).isEmpty
  | some d =>
    match ms.filter (·.kind == .ds) with
    | [p] => decide (0xF0 ≤ p.slotId.toNat) && !(p.initStatus.getLsbD d.connectBit.val)
    | _ => false

/-- Slot ids pairwise distinct: "at most one Module instance per slotId" (R5, R87). -/
def slotsDistinct : List ModuleParams → Bool
  | [] => true
  | p :: ps => ps.all (fun q => q.slotId != p.slotId) && slotsDistinct ps

/-- A configuration and its `MODS` meet every constraint of R5. -/
def Config.admits (c : Config) (ms : List ModuleParams) : Bool :=
  c.wf && ms.all ModuleParams.wf && slotsDistinct ms && c.dsModulesWf ms

/-- The configuration has this operation and its operands are the operation's own: a general I/O operation is one
that no row of lower `decode_order` names (R64, R65), the secondary side and the clock exist with a disk station only
(R62, R160; log 11), `SPEEDCHG 0` is none (R67). -/
def Instr.wellFormed (c : Config) : Instr → Bool
  | .mrd _ => true
  | .mwr _ _ => true
  | .typerd _ => true
  | .brrd _ _ => c.ds.isSome
  | .iord p => portLow p != c.statusPort && !(c.ds.isSome && isBridgePort (portLow p))
  | .statwr _ _ => true
  | .dsctl _ _ => c.ds.isSome
  | .brwr _ _ _ => c.ds.isSome
  | .iowr p _ => portLow p != c.statusPort && !(c.ds.any (·.claimsWritePort p))
  | .encpu => c.ds.isSome
  | .stopcpu => c.ds.isSome
  | .rstcpu => c.ds.isSome
  | .nmicpu => c.ds.isSome
  | .hreset => true
  | .tick => c.ds.isSome
  | .speedchg k => c.ds.isSome && k != 0
  | .smrd _ => c.ds.isSome
  | .smwr _ _ => c.ds.isSome
  | .siord _ => c.ds.isSome
  | .drvsel _ _ => c.ds.isSome
  | .gideact p _ => c.ds.any (·.isGideAct p)
  | .dmaact p _ => c.ds.any (·.isDmaAct p)
  | .pagewr _ _ => (c.ds.bind DsParams.ext?).isSome
  | .siowr p _ => c.ds.any fun d => !(d.isDrvsel p || d.isGideAct p || d.isDmaAct p || d.isPagePort p)
  | .loopenter => c.ds.isSome
  | .wexit => c.ds.isSome
  | .sfault => c.ds.isSome

end Sys2Proof
end

