-- ==== Sys2Proof/Decode.lean ====
section
/-! DEFINITION. The decoder of transaction words (30_encoding.md R60 to R67), total, rejecting by name, and the encoder of
the canonical words (R60, R68). A configuration decides the port numbers; the conditions that depend on the state
(`ds.connected`, an earlier module's claim) are tested where the operation is executed (log 9). -/

namespace Sys2Proof

/-- Why a word names no transaction (R67). -/
inductive DecodeRefusal where
  /-- kind `0x7` or `0xF`: "spells no transaction" (R67) -/
  | reservedKind
  /-- a secondary-side or clock kind without a disk station (R62, R67; `TICK` and `SPEEDCHG`: R160, log 11) -/
  | noDiskStation
  /-- `SPEEDCHG` with `a = 0` (R67) -/
  | zeroSpeed
  deriving DecidableEq, Repr

/-- R64 for a read: the module control port, then the bridge ports of a disk station, else the general read. -/
def classifyIoRead (c : Config) (p : Port) : Instr :=
  if portLow p = c.statusPort then .typerd (portHigh p)
  else if c.ds.isSome && isBridgePort (portLow p) then .brrd ((portLow p).extractLsb' 0 2) (portHigh p)
  else .iord p

/-- R64 for a write: the module control port, then the two ports of a disk station, else the general write. -/
def classifyIoWrite (c : Config) (p : Port) (v : Byte) : Instr :=
  if portLow p = c.statusPort then .statwr (portHigh p) v
  else
    match c.ds with
    | none => .iowr p v
    | some d =>
      if portLow p = d.ctrlPort then .dsctl (portHigh p) v
      else if isBridgePort (portLow p) then .brwr ((portLow p).extractLsb' 0 2) (portHigh p) v
      else .iowr p v

/-- R65: the sub-decode of a secondary I/O write. -/
def classifySecWrite (d : DsParams) (p : Port) (v : Byte) : Instr :=
  if d.isDrvsel p then .drvsel (portHigh p) v
  else if d.isGideAct p then .gideact p v
  else if d.isDmaAct p then .dmaact p v
  else if d.isPagePort p then .pagewr (portHigh p) v
  else .siowr p v

/-- The kinds that exist with a disk station only (R62, R67). -/
def withDiskStation (c : Config) (f : DsParams → Except DecodeRefusal Instr) : Except DecodeRefusal Instr :=
  match c.ds with
  | none => .error .noDiskStation
  | some d => f d

/-- The opcode map (R62) with its sub-decodes (R64, R65) and its reserved encodings (R67). Unused fields are
ignored. -/
def decode (c : Config) (w : TxWord) : Except DecodeRefusal Instr :=
  match (txKind w).toNat with
  | 0x0 => .ok (.mrd (txAddr w))
  | 0x1 => .ok (.mwr (txAddr w) (txData w))
  | 0x2 => .ok (classifyIoRead c (txAddr w))
  | 0x3 => .ok (classifyIoWrite c (txAddr w) (txData w))
  | 0x4 => .ok .hreset
  | 0x5 => withDiskStation c fun _ => .ok .tick
  | 0x6 => withDiskStation c fun _ => if txAddr w = 0 then .error .zeroSpeed else .ok (.speedchg (txAddr w))
  | 0x8 => withDiskStation c fun _ => .ok (.smrd (txAddr w))
  | 0x9 => withDiskStation c fun _ => .ok (.smwr (txAddr w) (txData w))
  | 0xA => withDiskStation c fun _ => .ok (.siord (txAddr w))
  | 0xB => withDiskStation c fun d => .ok (classifySecWrite d (txAddr w) (txData w))
  | 0xC => withDiskStation c fun _ => .ok .loopenter
  | 0xD => withDiskStation c fun _ => .ok .wexit
  | 0xE => withDiskStation c fun _ => .ok .sfault
  | _ => .error .reservedKind

/-- The actions a `DSCTL v` triggers, in `CTRL_EDGE_ORDER`: one for each bit that is 1 in `v` and 0 in the latch
(R142). This is how a word comes to select `ENCPU`, `STOPCPU`, `RSTCPU`, `NMICPU` (R66, log 10). -/
def decodeEdges (order : List CtrlBit) (old : BitVec 4) (v : Byte) : List CtrlBit :=
  order.filter fun b => v.getLsbD b.index && !(old.getLsbD b.index)

/-- The canonical word of an operation (R60, R68): unused fields are zero. The word of one of the four control
actions is the `DSCTL` that raises its bit alone. `none` when the configuration has no such word. -/
def encode (c : Config) : Instr → Option TxWord
  | .mrd a => some (txPack 0x0 a 0)
  | .mwr a v => some (txPack 0x1 a v)
  | .typerd slot => some (txPack 0x2 (mkPort slot c.statusPort) 0)
  | .brrd page high => some (txPack 0x2 (mkPort high (bridgePort page)) 0)
  | .iord p => some (txPack 0x2 p 0)
  | .statwr slot v => some (txPack 0x3 (mkPort slot c.statusPort) v)
  | .dsctl high v => c.ds.map fun d => txPack 0x3 (mkPort high d.ctrlPort) v
  | .brwr page high v => some (txPack 0x3 (mkPort high (bridgePort page)) v)
  | .iowr p v => some (txPack 0x3 p v)
  | .encpu => c.ds.map fun d => txPack 0x3 (mkPort 0 d.ctrlPort) 0x01
  | .stopcpu => c.ds.map fun d => txPack 0x3 (mkPort 0 d.ctrlPort) 0x02
  | .rstcpu => c.ds.map fun d => txPack 0x3 (mkPort 0 d.ctrlPort) 0x04
  | .nmicpu => c.ds.map fun d => txPack 0x3 (mkPort 0 d.ctrlPort) 0x08
  | .hreset => some (txPack 0x4 0 0)
  | .tick => some (txPack 0x5 0 0)
  | .speedchg k => some (txPack 0x6 k 0)
  | .smrd a => some (txPack 0x8 a 0)
  | .smwr a v => some (txPack 0x9 a v)
  | .siord p => some (txPack 0xA p 0)
  | .drvsel high v => c.ds.map fun d => txPack 0xB (mkPort high d.drvselPort) v
  | .gideact p v => some (txPack 0xB p v)
  | .dmaact p v => some (txPack 0xB p v)
  | .pagewr high v => (c.ds.bind DsParams.ext?).map fun e => txPack 0xB (mkPort high e.pagePort) v
  | .siowr p v => some (txPack 0xB p v)
  | .loopenter => some (txPack 0xC 0 0)
  | .wexit => some (txPack 0xD 0 0)
  | .sfault => some (txPack 0xE 0 0)

/-- The 28-bit transaction word in the first `nbits` bits of a number, bit 0 of both the least significant (R60). -/
def txWordOf (nbits w : Nat) : TxWord := BitVec.ofNat 28 (w % 2 ^ nbits)

/-- The decoder under the configuration of `State.reset` (log 2), on a word numbered as the opcode table numbers it. -/
def decodeTableWord (nbits w : Nat) : Option Instr :=
  match decode Config.cfgT (txWordOf nbits w) with
  | .ok i => some i
  | .error _ => none

end Sys2Proof
end

