-- ==== Sys2Proof/Machine/State.lean ====
section
/-! DEFINITION. The state of the block (10_state.md R10), its answers and output events (30_encoding.md R61), the reasons a
step can stop, and the state at construction (R31, 70_reset_and_hazards.md R231). Plain data throughout. -/

namespace Sys2Proof.Machine

/-- A byte array: the listed cells, and below `clearedBelow` zero where no cell is listed (the cold clear of R124);
every other byte has not been written (R56; log 3, log 4). -/
structure Memory where
  clearedBelow : Nat
  cells : List Host.Cell
  deriving DecidableEq, Repr

/-- An array nothing has written. -/
def Memory.unwritten : Memory := { clearedBelow := 0, cells := [] }

/-- One installed module: its constants (R5), its status register (R11, R14) and, for a RAM, its store (R21). -/
structure Module where
  params : ModuleParams
  status : Byte
  store : Memory
  deriving DecidableEq, Repr

/-- `sec.runLevel` (R24). -/
inductive RunLevel where
  | down | startingUp | running
  deriving DecidableEq, Repr

/-- The outcome of a write on the host bus (R61, R81). -/
inductive WriteOutcome where
  | notHandled | handledBlocked | handledWritten
  deriving DecidableEq, Repr

/-- What a transaction answers on its bus (R61): a host read `(claimed, value)`, a host write its outcome, a
secondary read its value, every other transaction nothing. -/
inductive Answer where
  | silent
  | hostRead (claimed : Bool) (value : Byte)
  | hostWrite (o : WriteOutcome)
  | secRead (value : Byte)
  deriving DecidableEq, Repr

/-- The two activity indicators (R61, R163). -/
inductive Indicator where
  | gide | dma
  deriving DecidableEq, Repr

/-- The four error classes (R200). -/
inductive ErrorClass where
  | addressMiss | writeProtect | secondaryFault | configMismatch
  deriving DecidableEq, Repr

/-- The output events (R61, R203). `secReset` carries `SEC_RESET_VECTOR`, where the external CPU restarts (R61). -/
inductive Event where
  | secReset (vector : Addr)
  | secNmi
  | secSpeed (kHz : KHz)
  | ctc0Pulse
  | chipIoWrite (port : Port) (value : Byte)
  | chipIoRead (port : Port)
  | dirty (i : Indicator)
  | errorReport (e : ErrorClass)
  deriving DecidableEq, Repr

/-- Faults: none. "Nothing in the block is `fault`" (93_implementation_defined.md; R202), so nothing raises one (log 15). -/
inductive Fault where
  deriving DecidableEq, Repr

/-- The refusals. Each is safe: the block gives such an input no effect, and the model gives it no step. -/
inductive Refusal where
  /-- An instruction without a meaning: raised by no arm of this model. -/
  | notModelled (mnemonic : String)
  /-- A word that spells no transaction, raised by `step` (R67, U8). Safe. -/
  | undecodable (r : DecodeRefusal)
  /-- `LOOPENTER`, `WEXIT` or `SFAULT` while its enabling condition is false, raised by those three (R67, U9): "a
  model gives it no step". Safe. -/
  | notEnabled (mnemonic : String)
  /-- An operation of the disk station, its secondary side or its clock executed in a state whose configuration has no
  disk station, raised by their meanings (R62, R67); the decoder never yields one there. Safe. -/
  | noDiskStation
  /-- `PAGEWR` executed in a state whose disk station is of the `BASE` variant, which has no page register and no page
  port, raised by its meaning (R62, R65); the decoder never yields one there. Safe. -/
  | noPageRegister
  /-- `SPEEDCHG 0`, raised by its meaning (R67); the decoder never yields one. Safe. -/
  | zeroSpeed
  /-- A configuration that breaks a constraint of R5, raised by `powerUp`. Safe. -/
  | brokenConfiguration
  deriving DecidableEq, Repr

/-- The state. The fields from `mods` to `pageRam` are those of R10; `cfg` and each module's `params` are the constants of
the configuration (R10, log 2); the last four are the model's own (log 1, log 6, log 8). -/
structure State where
  /-- the parameters that are not per module (R5); never written -/
  cfg : Config
  /-- `MODS` in installation order (R87), each with `m.status` and `m.store` -/
  mods : List Module
  /-- `ds.latch[3:0]` (R16) -/
  latch : BitVec 4
  /-- `ds.clkSel` (R20) -/
  clkSel : Bool
  /-- `sec.mem` (R22) -/
  secMem : Memory
  /-- `sec.runLevel` (R24) -/
  runLevel : RunLevel
  /-- `sec.workerLive` (R25) -/
  workerLive : Bool
  /-- `sec.coldPending` (R26) -/
  coldPending : Bool
  /-- `sec.driveMask[3:0]` (R18) -/
  driveMask : BitVec 4
  /-- `sec.div8[2:0]` (R27) -/
  div8 : BitVec 3
  /-- `sec.speedKHz` (R20) -/
  speedKHz : KHz
  /-- `sec.gideGlow` (R28) -/
  gideGlow : Nat
  /-- `sec.dmaGlow` (R28) -/
  dmaGlow : Nat
  /-- `sec.pageEn` (R19) -/
  pageEn : Bool
  /-- `sec.pageBank[6:0]` (R19) -/
  pageBank : BitVec 7
  /-- `sec.pageRam`, byte `(bank, offset)` at `bank * 0x4000 + offset` (R23) -/
  pageRam : Memory
  /-- MODEL: the words still to arrive, in the one total order of R50 -/
  inputs : List TxWord
  /-- MODEL: how many transactions the block has taken; indexes the values supplied from outside -/
  arrivals : Nat
  /-- MODEL: what the last transaction answered (R61) -/
  answer : Answer
  /-- MODEL: the events emitted so far, oldest first (R61, R203) -/
  events : List Event
  deriving DecidableEq, Repr

/-! ## Updates, one per piece of state that an operation writes -/

def State.setMods (s : State) (x : List Module) : State := { s with mods := x }
def State.setLatch (s : State) (x : BitVec 4) : State := { s with latch := x }
def State.setClkSel (s : State) (x : Bool) : State := { s with clkSel := x }
def State.setSecMem (s : State) (x : Memory) : State := { s with secMem := x }
def State.setRunLevel (s : State) (x : RunLevel) : State := { s with runLevel := x }
def State.setWorkerLive (s : State) (x : Bool) : State := { s with workerLive := x }
def State.setColdPending (s : State) (x : Bool) : State := { s with coldPending := x }
def State.setDriveMask (s : State) (x : BitVec 4) : State := { s with driveMask := x }
def State.setDiv8 (s : State) (x : BitVec 3) : State := { s with div8 := x }
def State.setSpeed (s : State) (x : KHz) : State := { s with speedKHz := x }
def State.setGideGlow (s : State) (x : Nat) : State := { s with gideGlow := x }
def State.setDmaGlow (s : State) (x : Nat) : State := { s with dmaGlow := x }
def State.setPage (s : State) (en : Bool) (bank : BitVec 7) : State := { s with pageEn := en, pageBank := bank }
def State.setPageRam (s : State) (x : Memory) : State := { s with pageRam := x }
def State.setAnswer (s : State) (x : Answer) : State := { s with answer := x }

/-- `emit` (R7): one more output event. -/
def State.emit (s : State) (e : Event) : State := { s with events := s.events ++ [e] }

/-- The next word is taken from the inputs and counted. -/
def State.arrive (s : State) (rest : List TxWord) : State := { s with inputs := rest, arrivals := s.arrivals + 1 }

/-! ## Construction -/

/-- The construction value of `sec.speedKHz` (R20 with `clkSel = 0`); 1 where there is no disk station and so no such
register (log 12). -/
def initialSpeed (c : Config) : KHz :=
  match c.ds with
  | none => 1
  | some d =>
    match d.fixedSpeed with
    | some k => k
    | none =>
      match d.variant with
      | .base => d.speedInit
      | .ext e => e.speedA

/-- A module at construction: its status is `INIT_STATUS`, its store unwritten (R31). -/
def Module.construct (p : ModuleParams) : Module := { params := p, status := p.initStatus, store := .unwritten }

/-- The construction values of R31 and R231 for a configuration. -/
def State.construct (c : Config) (ms : List ModuleParams) : State :=
  { cfg := c, mods := ms.map Module.construct, latch := 0, clkSel := false, secMem := .unwritten
    runLevel := .down, workerLive := false, coldPending := false, driveMask := 0, div8 := 0
    speedKHz := initialSpeed c, gideGlow := 0, dmaGlow := 0, pageEn := false, pageBank := 0
    pageRam := .unwritten, inputs := [], arrivals := 0, answer := .silent, events := [] }

/-- The machine right after reset: construction (which a following `HRESET` does not change, R231) with the
configuration CFG-T, `EXT` variant (log 2). -/
def State.reset : State := State.construct Config.cfgT cfgTMods

end Sys2Proof.Machine
end

