-- ==== Sys2Proof/Machine/Flags.lean ====
section
/-! DEFINITION. Every flag the block derives from a status byte (10_state.md R13): enable, write enable, connection, base
address and segment mask (41_window_decoder.md R100 to R102), with the window parameters of the disk station's ROM
(R109, 45_variant_ext.md R180). All are functions of the status byte; none is stored (R29, R55). -/

namespace Sys2Proof

/-- R101: `(status << 8) & windowAlignMask`. -/
def Decoder.baseAddress (d : Decoder) (status : Byte) : Nat := (status.toNat <<< 8) &&& d.alignMask.toNat

/-- R102: `(status << segShift) & backingStoreMask` on unbounded integers, `0` when `N = W`. -/
def Decoder.segmentMask (d : Decoder) (status : Byte) : Nat :=
  if d.storeSize = d.window.bytes then 0 else (status.toNat <<< d.segShift) &&& d.storeMask

/-- The window size of `DS_ROM_W` (R109). -/
def DsRomWindow.window : DsRomWindow → WindowSize
  | .k8 => .k8
  | .k16 => .k16

/-- The window size `4 * DS_ROM_W` of the `EXT` variant (R180). -/
def DsRomWindow.wideWindow : DsRomWindow → WindowSize
  | .k8 => .k32
  | .k16 => .k64

/-- The decoder of the disk station's ROM window: R109 in `BASE`; in `EXT` the four-bank window of R180. -/
def DsParams.romDecoder (d : DsParams) : Decoder :=
  match d.variant with
  | .base =>
    { window := d.romWindow.window, alignMask := d.romAlignMask, storeSize := d.romWindow.window.bytes
      segShift := 0, storeMask := 0 }
  | .ext e =>
    { window := d.romWindow.wideWindow
      alignMask := d.romAlignMask &&& BitVec.ofNat 16 (0x10000 - d.romWindow.wideWindow.bytes)
      storeSize := 4 * d.romWindow.wideWindow.bytes, segShift := e.bankShift
      storeMask := 3 * d.romWindow.wideWindow.bytes }

end Sys2Proof

namespace Sys2Proof.Machine

/-- R13: `m.enabled = m.status[0]`, for every module kind. -/
def Module.enabled (m : Module) : Bool := m.status.getLsbD 0

/-- R13, R107: `m.writeEnable = m.status[WE_BIT]`, 1 = writable. -/
def Module.writeEnable (m : Module) (weBit : Fin 8) : Bool := m.status.getLsbD weBit.val

/-- R13: `ds.connected = ds.status[DS_CONNECT_BIT]`, of the disk-station module. -/
def Module.connected (m : Module) (d : DsParams) : Bool := m.status.getLsbD d.connectBit.val

/-- The window decoder of a module; none for a peripheral module, which has no memory window (R109). -/
def Module.decoder? (m : Module) (c : Config) : Option Decoder :=
  match m.params.kind with
  | .rom dec _ => some dec
  | .ram dec _ => some dec
  | .peripheral => none
  | .ds => c.ds.map DsParams.romDecoder

/-- R13, R17: the connection flag of the block, the bit of the disk-station module's status byte. -/
def State.connected (s : State) : Bool :=
  match s.cfg.ds with
  | none => false
  | some d => s.mods.any fun m => m.params.kind == .ds && m.connected d

end Sys2Proof.Machine
end

