-- ==== Sys2Proof/Machine/Operands.lean ====
section
/-! DEFINITION. Every address an operation computes: window membership and store index (41_window_decoder.md R103, R104),
the bridge address (43_bridge.md R140), the page window (45_variant_ext.md R182), the fields of a page byte (R181). -/

namespace Sys2Proof

/-- R103: `baseAddress <= addr < baseAddress + W`, compared as integers. -/
def Decoder.inWindow (d : Decoder) (status : Byte) (addr : Addr) : Bool :=
  decide (d.baseAddress status ≤ addr.toNat) && decide (addr.toNat < d.baseAddress status + d.window.bytes)

/-- R103: `addr - baseAddress`. -/
def Decoder.offset (d : Decoder) (status : Byte) (addr : Addr) : Nat := addr.toNat - d.baseAddress status

/-- R103: `offset | segmentMask`. -/
def Decoder.index (d : Decoder) (status : Byte) (addr : Addr) : Nat := d.offset status addr ||| d.segmentMask status

/-- R140: `(0xFC00 | (portLow << 8) | portHigh) & 0xFFFF`. -/
def bridgeAddr (p : Port) : Nat :=
  (bridgeMemBase ||| ((portLow p).toNat <<< 8) ||| (portHigh p).toNat) &&& 0xFFFF

/-- R181: the enable bit of a page byte. -/
def PageLayout.enableBit (l : PageLayout) (v : Byte) : Bool :=
  match l with
  | .A => v.getLsbD 7
  | .B => v.getLsbD 0

/-- R181: the bank number of a page byte. -/
def PageLayout.bank (l : PageLayout) (v : Byte) : BitVec 7 :=
  match l with
  | .A => v.extractLsb' 0 7
  | .B => v.extractLsb' 1 7

/-- Where byte `addr & 0x3FFF` of a bank is kept in the paged RAM (R23, R182). -/
def pageIndex (bank : BitVec 7) (addr : Addr) : Nat := bank.toNat * 0x4000 + (addr &&& 0x3FFF).toNat

end Sys2Proof

namespace Sys2Proof.Machine

/-- R103, R104: the store index of an access the module claims: it is enabled and the address is in its window. -/
def Module.claimIndex (m : Module) (c : Config) (addr : Addr) : Option Nat :=
  match m.decoder? c with
  | none => none
  | some d => if m.enabled && d.inWindow m.status addr then some (d.index m.status addr) else none

/-- R182: `sec.pageEn = 1` and `(addr & 0xC000) = PAGE_WINDOW_BASE`, in `EXT` only. -/
def State.pageHit (s : State) (addr : Addr) : Bool :=
  match s.cfg.ds.bind DsParams.ext? with
  | none => false
  | some e => s.pageEn && addr &&& 0xC000 == e.pageWindowBase

end Sys2Proof.Machine
end

