-- ==== Sys2Proof/Machine/Ops.lean ====
section
/-! DEFINITION. The named operations over memory, modules and registers that the meanings share: byte arrays (R21 to R23,
R56), the module methods (R86, R105 to R109, R143, R144), the ModuleBus search (R80 to R83), the control-port write
(R142), the lifecycle (R120 to R126) with the containment of a secondary fault (R205), the afterglow counters
(R161 to R165), construction (R5, R231) and the arrival of the next word (R8, R50). -/

namespace Sys2Proof.Machine

/-! ## Byte arrays -/

/-- The listed cell of an address. -/
def lookupCell : List Host.Cell → Nat → Option Byte
  | [], _ => none
  | c :: rest, a => if c.1 = a then some c.2 else lookupCell rest a

/-- The cells with one cell added or replaced, in rising order. -/
def insertCell : List Host.Cell → Nat → Byte → List Host.Cell
  | [], a, v => [(a, v)]
  | c :: rest, a, v =>
    if a < c.1 then (a, v) :: c :: rest
    else if a = c.1 then (a, v) :: rest
    else c :: insertCell rest a v

/-- The cells with none at an address. -/
def eraseCell (cells : List Host.Cell) (a : Nat) : List Host.Cell := cells.filter fun c => c.1 != a

/-- What an unlisted address holds: zero below the cold-cleared bound (R124), otherwise nothing written (R56). -/
def Memory.unlisted (m : Memory) (a : Nat) : Option Byte := if a < m.clearedBelow then some 0 else none

/-- The byte written at an address, if any was. -/
def Memory.get (m : Memory) (a : Nat) : Option Byte :=
  match lookupCell m.cells a with
  | some v => some v
  | none => m.unlisted a

/-- One byte written; the canonical form is kept. -/
def Memory.set (m : Memory) (a : Nat) (v : Byte) : Memory :=
  { m with cells := if m.unlisted a = some v then eraseCell m.cells a else insertCell m.cells a v }

/-- Every byte below a bound written with zero (R124). -/
def Memory.clearBelow (m : Memory) (n : Nat) : Memory :=
  { clearedBelow := max m.clearedBelow n, cells := m.cells.filter fun c => decide (n ≤ c.1) }

/-- The canonical form: addresses strictly rising, no cell equal to what an unlisted address holds. -/
def Memory.wf (m : Memory) : Bool := cellsRising m.cells && m.cells.all fun c => m.unlisted c.1 != some c.2

/-- The byte an array answers: a byte nothing has written is a free value (R56, U1; log 3). -/
def readByte (id : StoreId) (m : Memory) (a : Nat) : Byte := (m.get a).getD (Config.powerUpByte id a)

/-- The byte of a ROM image; one the configuration does not list is a free constant (log 5). -/
def romByte (slot : Byte) (image : List Host.Cell) (a : Nat) : Byte :=
  (lookupCell image a).getD (Config.imageByte slot a)

/-! ## The memory methods of a module (R105 to R109) -/

/-- `m.readMem(addr)`, none for `NOT_HANDLED`. -/
def Module.readMem (m : Module) (c : Config) (addr : Addr) : Option Byte :=
  match m.claimIndex c addr with
  | none => none
  | some i =>
    match m.params.kind with
    | .rom _ image => some (romByte m.params.slotId image i)
    | .ram _ _ => some (readByte (.module m.params.slotId) m.store i)
    | .peripheral => none
    | .ds => c.ds.map fun d => romByte m.params.slotId d.romImage i

/-- R108: the outcome of a write inside an enabled ROM's window. -/
def romOutcome : RomWriteOutcome → WriteOutcome
  | .notHandled => .notHandled
  | .handledBlocked => .handledBlocked

/-- `m.writeMem(addr, v)`: the outcome and the module after it (R107 to R109). -/
def Module.writeMem (m : Module) (c : Config) (addr : Addr) (v : Byte) : WriteOutcome × Module :=
  match m.claimIndex c addr with
  | none => (.notHandled, m)
  | some i =>
    match m.params.kind with
    | .ram _ weBit =>
      if m.writeEnable weBit then (.handledWritten, { m with store := m.store.set i v }) else (.handledBlocked, m)
    | .rom _ _ => (romOutcome c.romWriteOutcome, m)
    | .peripheral => (.notHandled, m)
    | .ds => (romOutcome c.romWriteOutcome, m)

/-- `m.setStatus(v)` (R100): every flag follows from the new byte at once; the store is untouched. -/
def Module.setStatus (m : Module) (v : Byte) : Module := { m with status := v }

/-! ## The ModuleBus search -/

/-- R80: the first module that claims the read answers; the fill byte when none does. -/
def busRead (c : Config) (mods : List Module) (addr : Addr) : Answer :=
  match mods.findSome? fun m => m.readMem c addr with
  | some v => .hostRead true v
  | none => .hostRead false fillByte

/-- R81: the search stops at the first module whose outcome is not `NOT_HANDLED`. -/
def busWrite (c : Config) (addr : Addr) (v : Byte) : List Module → WriteOutcome × List Module
  | [] => (.notHandled, [])
  | m :: rest =>
    match m.writeMem c addr v with
    | (.notHandled, _) => ((busWrite c addr v rest).1, m :: (busWrite c addr v rest).2)
    | (o, m') => (o, m' :: rest)

/-- The module in a slot (R84, R85). -/
def findSlot (mods : List Module) (slot : Byte) : Option Module := mods.find? fun m => m.params.slotId == slot

/-- `status[slot] <- v` through `setStatus` (R7, R100). -/
def setSlotStatus (mods : List Module) (slot v : Byte) : List Module :=
  mods.map fun m => if m.params.slotId = slot then m.setStatus v else m

/-- R84: the type byte of a slot. -/
def typeRead (s : State) (slot : Byte) : State :=
  match findSlot s.mods slot with
  | some m => s.setAnswer (.hostRead true m.params.typeByte)
  | none => s.setAnswer (.hostRead false fillByte)

/-- R85: slot lookup, then `switchable`, then the write (R204 item 3). -/
def statusWrite (s : State) (slot v : Byte) : State :=
  match findSlot s.mods slot with
  | none => s.setAnswer (.hostWrite .notHandled)
  | some m =>
    if m.params.switchable then (s.setMods (setSlotStatus s.mods slot v)).setAnswer (.hostWrite .handledWritten)
    else s.setAnswer (.hostWrite .handledBlocked)

/-! ## Secondary memory -/

/-- One byte of the raw array `sec.mem` (R7). -/
def State.secByte (s : State) (a : Nat) : Byte := readByte .secMem s.secMem a

/-- One byte of `sec.pageRam`. -/
def State.pageByte (s : State) (i : Nat) : Byte := readByte .pageRam s.pageRam i

/-- `SecMemRead(addr)` (R146, R182). -/
def secRead (s : State) (addr : Addr) : Byte :=
  if s.pageHit addr then s.pageByte (pageIndex s.pageBank addr) else s.secByte addr.toNat

/-- `SecMemWrite(addr, v)` (R147, R183). -/
def secWrite (s : State) (addr : Addr) (v : Byte) : State :=
  if s.pageHit addr then s.setPageRam (s.pageRam.set (pageIndex s.pageBank addr) v)
  else s.setSecMem (s.secMem.set addr.toNat v)

/-! ## The I/O methods of a module -/

/-- `m.readIO(port)` (R86): the bridge of the disk station (R143, R140); a peripheral module decides for itself
(R82, U7; log 6); a ROM or RAM claims nothing (D32). -/
def Module.readIO (m : Module) (s : State) (p : Port) : Option Byte :=
  match m.params.kind with
  | .rom _ _ => none
  | .ram _ _ => none
  | .peripheral =>
    if Config.peripheralClaimsRead s.arrivals m.params.slotId m.status (portLow p) then
      some (Config.peripheralReads s.arrivals m.params.slotId m.status p)
    else none
  | .ds =>
    match s.cfg.ds with
    | none => none
    | some d => if m.connected d && isBridgePort (portLow p) then some (s.secByte (bridgeAddr p)) else none

/-- What a claimed I/O write reaches. -/
inductive IoWriteClaim where
  | peripheral | control | bridge
  deriving DecidableEq, Repr

/-- Who a module's `writeIO` hands a write to (R86, R144), none for `NOT_HANDLED`. -/
def Module.claimIoWrite (m : Module) (s : State) (p : Port) : Option IoWriteClaim :=
  match m.params.kind with
  | .rom _ _ => none
  | .ram _ _ => none
  | .peripheral =>
    if Config.peripheralClaimsWrite s.arrivals m.params.slotId m.status (portLow p) then some .peripheral else none
  | .ds =>
    match s.cfg.ds with
    | none => none
    | some d =>
      if portLow p = d.ctrlPort && (m.connected d || !d.ctrlNeedsConnect) then some .control
      else if m.connected d && isBridgePort (portLow p) then some .bridge
      else none

/-- R82: the first module that claims the port answers. -/
def ioRead (s : State) (p : Port) : State :=
  match s.mods.findSome? fun m => m.readIO s p with
  | some v => s.setAnswer (.hostRead true v)
  | none => s.setAnswer (.hostRead false fillByte)

/-- R83, R144: what the first module that claims a write hands it to. -/
def ioWriteClaim (s : State) (p : Port) : Option IoWriteClaim := s.mods.findSome? fun m => m.claimIoWrite s p

/-! ## The lifecycle actions (R120 to R123) -/

/-- R120. -/
def enableCpu (s : State) : State :=
  if s.workerLive then s else ((s.setWorkerLive true).setRunLevel .startingUp).setColdPending true

/-- R121. -/
def requestStop (s : State) : State := s.setRunLevel .down

/-- R122. -/
def requestReset (s : State) : State := if s.runLevel = .running then s.setRunLevel .startingUp else s

/-- R123. -/
def requestNmi (s : State) : State := if s.runLevel = .running then s.emit .secNmi else s

/-- The action of a control bit (R142). -/
def runAction (s : State) : CtrlBit → State
  | .enable => enableCpu s
  | .stop => requestStop s
  | .reset => requestReset s
  | .nmi => requestNmi s

/-! ## Afterglow counters and speed -/

/-- The counter of an indicator (R163). -/
def State.glow (s : State) : Indicator → Nat
  | .gide => s.gideGlow
  | .dma => s.dmaGlow

/-- `c <- x` for the counter of an indicator. -/
def State.setGlow (s : State) (i : Indicator) (x : Nat) : State :=
  match i with
  | .gide => s.setGideGlow x
  | .dma => s.setDmaGlow x

/-- `glowLoad` (R161, R185): the full count, and `Dirty` when the counter was 0. -/
def glowLoad (s : State) (i : Indicator) : State :=
  let loaded := s.setGlow i (s.speedKHz.toNat * 100)
  if s.glow i = 0 then loaded.emit (.dirty i) else loaded

/-- `glowTick` (R162): one down, and `Dirty` on reaching 0. -/
def glowTick (s : State) (i : Indicator) : State :=
  if s.glow i = 0 then s
  else
    let down := s.setGlow i (s.glow i - 1)
    if s.glow i = 1 then down.emit (.dirty i) else down

/-- `ceil(c * new / old)` (R110, R165). -/
def rescaleGlow (glow new old : Nat) : Nat := (glow * new + old - 1) / old

/-- A counter across a speed change: rescaled or kept, by `AFTERGLOW_RESCALE`; 0 stays 0 (R165). -/
def glowAfterSpeed (d : DsParams) (glow new old : Nat) : Nat :=
  match d.afterglow with
  | .rescale => if glow = 0 then 0 else rescaleGlow glow new old
  | .keep => glow

/-- `setSpeed(khz)` (R165). -/
def setSpeedTo (d : DsParams) (s : State) (k : KHz) : State :=
  ((s.setGideGlow (glowAfterSpeed d s.gideGlow k.toNat s.speedKHz.toNat)).setDmaGlow
    (glowAfterSpeed d s.dmaGlow k.toNat s.speedKHz.toNat)).setSpeed k

/-- The prescaler's part of a tick: one up modulo 8, and `Ctc0Pulse` on the wrap to 0 (R160). -/
def prescalerTick (s : State) : State :=
  let up := s.setDiv8 (s.div8 + 1)
  if s.div8 + 1 = 0 then up.emit .ctc0Pulse else up

/-- The indicator counters that exist (R28): `GIDE` when `GIDE_PRESENT`, `DMA` in `EXT`. -/
def hasIndicator (d : DsParams) : Indicator → Bool
  | .gide => d.gidePresent
  | .dma => d.ext?.isSome

/-- `glowTick` of a counter that exists. -/
def glowTickIf (d : DsParams) (s : State) (i : Indicator) : State := if hasIndicator d i then glowTick s i else s

/-- One clock tick (R160), in the order of R204 item 5. -/
def clockTick (d : DsParams) (s : State) : State := glowTickIf d (glowTickIf d (prescalerTick s) .gide) .dma

/-! ## The control port -/

/-- The clock-rate bit of a control-port byte (R186), `EXT` without a fixed speed. -/
def applyClockBit (d : DsParams) (s : State) (v : Byte) : State :=
  match d.variant, d.fixedSpeed with
  | .ext e, none =>
    if v.getLsbD e.clkBit.val = s.clkSel then s
    else
      let k := if v.getLsbD e.clkBit.val then e.speedB else e.speedA
      (setSpeedTo d (s.setClkSel (v.getLsbD e.clkBit.val)) k).emit (.secSpeed k)
  | .ext _, some _ => s
  | .base, _ => s

/-- `DSCTL v` without its answer (R142): the latch, then the triggered actions in `CTRL_EDGE_ORDER`, each seeing the
state the one before it left (R204 item 4), then the clock-rate bit. -/
def controlWrite (d : DsParams) (s : State) (v : Byte) : State :=
  applyClockBit d ((decodeEdges d.edgeOrder s.latch v).foldl runAction (s.setLatch (v.extractLsb' 0 4))) v

/-- R83 with R144: the first module that claims the port takes the write. -/
def ioWrite (s : State) (p : Port) (v : Byte) : State :=
  match ioWriteClaim s p with
  | none => s.setAnswer (.hostWrite .notHandled)
  | some .peripheral => s.setAnswer (.hostWrite .handledWritten)
  | some .bridge => (s.setSecMem (s.secMem.set (bridgeAddr p) v)).setAnswer (.hostWrite .handledWritten)
  | some .control =>
    match s.cfg.ds with
    | none => s.setAnswer (.hostWrite .notHandled)
    | some d => (controlWrite d s v).setAnswer (.hostWrite .handledWritten)

/-! ## Run control: the recovery loop -/

/-- The nearest thing to taking an exception (R205, R126): the report is emitted, nothing is saved, a running
secondary system goes to `StartingUp`, and a pending stop is not overridden. -/
def containFault (s : State) : State :=
  let reported := s.emit (.errorReport .secondaryFault)
  if s.runLevel = .running then reported.setRunLevel .startingUp else reported

/-- The (re-)entry that follows (R124, R206): there is no return, only this restart. The cold clear first when it is
pending, then `Running`, then `SecReset` (R204 item 8). -/
def enterLoop (d : DsParams) (s : State) : State :=
  let cleared :=
    if s.coldPending then (s.setSecMem (s.secMem.clearBelow bridgeMemBase)).setColdPending false else s
  (cleared.setRunLevel .running).emit (.secReset d.resetVector)

/-- R124: `LOOPENTER` is enabled. -/
def State.canEnter (s : State) : Bool := s.workerLive && s.runLevel == .startingUp

/-- R125: `WEXIT` is enabled. -/
def State.canExit (s : State) : Bool := s.workerLive && s.runLevel == .down

/-- R126: `SFAULT` is enabled. -/
def State.canFault (s : State) : Bool :=
  s.workerLive && !s.coldPending && (s.runLevel == .running || s.runLevel == .down)

/-! ## Reset, construction, arrival -/

/-- R230: every module, switchable or not, back to its `INIT_STATUS`. -/
def resetModules (mods : List Module) : List Module := mods.map fun m => m.setStatus m.params.initStatus

/-- R230. -/
def hostReset (s : State) : State :=
  let done := s.setMods (resetModules s.mods)
  match s.cfg.ds with
  | none => done
  | some d => if d.hostResetStops then requestStop (done.setLatch 0) else done.setLatch 0

/-- Power-up with a configuration (R231); one that breaks a constraint is refused (R5). -/
def powerUp (c : Config) (ms : List ModuleParams) : Host.Outcome State Fault Refusal :=
  if c.admits ms then .next (State.construct c ms) else .refused .brokenConfiguration

/-- An operation of the disk station (R62): refused in a configuration without one. -/
def withDs (s : State) (f : DsParams → Host.Outcome State Fault Refusal) : Host.Outcome State Fault Refusal :=
  match s.cfg.ds with
  | none => .refused .noDiskStation
  | some d => f d

/-- The next word of the total order and the state it arrives in (R8, R50). -/
def fetch (s : State) : Option (TxWord × State) :=
  match s.inputs with
  | [] => none
  | w :: rest => some (w, s.arrive rest)

end Sys2Proof.Machine
end

