-- ==== Sys2Proof/Machine/Bridge.lean ====
section
/-! DEFINITION. The disk station's host ports: `BRRD`, `BRWR`, `DSCTL` (43_bridge.md R140 to R145). Each runs the module
search of R82, R83: where the disk station is not the first to claim, the word is the general `IORD` or `IOWR` that
carries it (30_encoding.md R64, log 9). -/

namespace Sys2Proof.Machine

/-- `BRRD` (R140, R143, R145). -/
def execBrrd (page : BitVec 2) (high : Byte) (s : State) : Host.Outcome State Fault Refusal :=
  .next (ioRead s (mkPort high (bridgePort page)))

/-- `BRWR` (R141, R144, R145). -/
def execBrwr (page : BitVec 2) (high v : Byte) (s : State) : Host.Outcome State Fault Refusal :=
  .next (ioWrite s (mkPort high (bridgePort page)) v)

/-- `DSCTL v` (R142, R144, R186). -/
def execDsctl (high v : Byte) (s : State) : Host.Outcome State Fault Refusal :=
  withDs s fun d => .next (ioWrite s (mkPort high d.ctrlPort) v)

end Sys2Proof.Machine
end

