-- ==== Sys2Proof/Machine/HostIo.lean ====
section
/-! DEFINITION. Host I/O and the module control port: `TYPERD`, `IORD`, `STATWR`, `IOWR` (40_module_bus.md R82 to R85). -/

namespace Sys2Proof.Machine

/-- `TYPERD slot` (R84). -/
def execTyperd (slot : Byte) (s : State) : Host.Outcome State Fault Refusal := .next (typeRead s slot)

/-- `IORD port` (R82). -/
def execIord (port : Port) (s : State) : Host.Outcome State Fault Refusal := .next (ioRead s port)

/-- `STATWR slot, v` (R85, R100). -/
def execStatwr (slot v : Byte) (s : State) : Host.Outcome State Fault Refusal := .next (statusWrite s slot v)

/-- `IOWR port, v` (R83). -/
def execIowr (port : Port) (v : Byte) (s : State) : Host.Outcome State Fault Refusal := .next (ioWrite s port v)

end Sys2Proof.Machine
end

