-- ==== Sys2Proof/Machine/HostMemory.lean ====
section
/-! DEFINITION. Host memory: `MRD`, `MWR` (40_module_bus.md R80, R81). -/

namespace Sys2Proof.Machine

/-- `MRD addr` (R80). -/
def execMrd (addr : Addr) (s : State) : Host.Outcome State Fault Refusal :=
  .next (s.setAnswer (busRead s.cfg s.mods addr))

/-- `MWR addr, v` (R81). -/
def execMwr (addr : Addr) (v : Byte) (s : State) : Host.Outcome State Fault Refusal :=
  let r := busWrite s.cfg addr v s.mods
  .next ((s.setMods r.2).setAnswer (.hostWrite r.1))

end Sys2Proof.Machine
end

