-- ==== Sys2Proof/Machine/Lifecycle.lean ====
section
/-! DEFINITION. The secondary system's lifecycle: the four control actions and the three run-control events
(42_secondary_lifecycle.md R120 to R126). -/

namespace Sys2Proof.Machine

/-- `ENCPU` (R120). -/
def execEncpu (s : State) : Host.Outcome State Fault Refusal := withDs s fun _ => .next (enableCpu s)

/-- `STOPCPU` (R121). -/
def execStopcpu (s : State) : Host.Outcome State Fault Refusal := withDs s fun _ => .next (requestStop s)

/-- `RSTCPU` (R122). -/
def execRstcpu (s : State) : Host.Outcome State Fault Refusal := withDs s fun _ => .next (requestReset s)

/-- `NMICPU` (R123). -/
def execNmicpu (s : State) : Host.Outcome State Fault Refusal := withDs s fun _ => .next (requestNmi s)

/-- `LOOPENTER` (R124); not enabled, it has no step (R67). -/
def execLoopenter (s : State) : Host.Outcome State Fault Refusal :=
  withDs s fun d =>
    if s.canEnter then .next ((enterLoop d s).setAnswer .silent) else .refused (.notEnabled "LOOPENTER")

/-- `WEXIT` (R125); not enabled, it has no step (R67). -/
def execWexit (s : State) : Host.Outcome State Fault Refusal :=
  withDs s fun _ =>
    if s.canExit then .next (((s.setWorkerLive false).setColdPending false).setAnswer .silent)
    else .refused (.notEnabled "WEXIT")

/-- `SFAULT` (R126, R205); not enabled, it has no step (R67). -/
def execSfault (s : State) : Host.Outcome State Fault Refusal :=
  withDs s fun _ =>
    if s.canFault then .next ((containFault s).setAnswer .silent) else .refused (.notEnabled "SFAULT")

end Sys2Proof.Machine
end

