-- ==== Sys2Proof/Machine/ResetClock.lean ====
section
/-! DEFINITION. `HRESET` (70_reset_and_hazards.md R230), `TICK` and `SPEEDCHG` (44_peripheral_glue.md R160, R165). -/

namespace Sys2Proof.Machine

/-- `HRESET` (R230). -/
def execHreset (s : State) : Host.Outcome State Fault Refusal := .next ((hostReset s).setAnswer .silent)

/-- `TICK` (R160, R162). -/
def execTick (s : State) : Host.Outcome State Fault Refusal :=
  withDs s fun d => .next ((clockTick d s).setAnswer .silent)

/-- `SPEEDCHG khz` (R165); `SPEEDCHG 0` is refused (R67). -/
def execSpeedchg (khz : KHz) (s : State) : Host.Outcome State Fault Refusal :=
  withDs s fun d => if khz = 0 then .refused .zeroSpeed else .next ((setSpeedTo d s khz).setAnswer .silent)

end Sys2Proof.Machine
end

