-- ==== Sys2Proof/Machine/Secondary.lean ====
section
/-! DEFINITION. The secondary CPU's transactions: `SMRD`, `SMWR`, `SIORD`, `SIOWR` (43_bridge.md R146 to R149) and the
operations a `SIOWR` carries: `DRVSEL`, `GIDEACT` (44_peripheral_glue.md R166, R161), `DMAACT`, `PAGEWR` (45_variant_ext.md
R185, R181). The block serves them in every lifecycle state (R67, R129; log 14). -/

namespace Sys2Proof.Machine

/-- `SMRD addr` (R146, R182). -/
def execSmrd (addr : Addr) (s : State) : Host.Outcome State Fault Refusal :=
  withDs s fun _ => .next (s.setAnswer (.secRead (secRead s addr)))

/-- `SMWR addr, v` (R147, R183). -/
def execSmwr (addr : Addr) (v : Byte) (s : State) : Host.Outcome State Fault Refusal :=
  withDs s fun _ => .next ((secWrite s addr v).setAnswer .silent)

/-- `SIORD port` (R148): forwarded; the value comes from outside (U6, log 7). -/
def execSiord (port : Port) (s : State) : Host.Outcome State Fault Refusal :=
  withDs s fun _ =>
    .next ((s.emit (.chipIoRead port)).setAnswer (.secRead (Config.chipIoRead s.arrivals port)))

/-- `SIOWR port, v` (R149): forwarded only. -/
def execSiowr (port : Port) (v : Byte) (s : State) : Host.Outcome State Fault Refusal :=
  withDs s fun _ => .next ((s.emit (.chipIoWrite port v)).setAnswer .silent)

/-- `DRVSEL v` (R166), then forwarded (R149). -/
def execDrvsel (high v : Byte) (s : State) : Host.Outcome State Fault Refusal :=
  withDs s fun d =>
    .next (((s.setDriveMask (v.extractLsb' 0 4)).emit (.chipIoWrite (mkPort high d.drvselPort) v)).setAnswer .silent)

/-- `GIDEACT` (R161), then forwarded (R149). Without the controller the port is a plain `SIOWR` (R65). -/
def execGideact (port : Port) (v : Byte) (s : State) : Host.Outcome State Fault Refusal :=
  withDs s fun d =>
    let loaded := if d.gidePresent then glowLoad s .gide else s
    .next ((loaded.emit (.chipIoWrite port v)).setAnswer .silent)

/-- `DMAACT` (R185), not forwarded (R65, R149 and R185 against the general sentence of R44; log 18). In `BASE` the port is
a plain `SIOWR` (R65). -/
def execDmaact (port : Port) (v : Byte) (s : State) : Host.Outcome State Fault Refusal :=
  withDs s fun d =>
    match d.variant with
    | .ext _ => .next ((glowLoad s .dma).setAnswer .silent)
    | .base => .next ((s.emit (.chipIoWrite port v)).setAnswer .silent)

/-- `PAGEWR v` (R181), then forwarded (R149). In `BASE` there is no page port, so no such operation (R62, R65). -/
def execPagewr (high v : Byte) (s : State) : Host.Outcome State Fault Refusal :=
  withDs s fun d =>
    match d.variant with
    | .ext e =>
      .next (((s.setPage (e.pageLayout.enableBit v) (e.pageLayout.bank v)).emit
        (.chipIoWrite (mkPort high e.pagePort) v)).setAnswer .silent)
    | .base => .refused .noPageRegister

end Sys2Proof.Machine
end

