-- ==== Sys2Proof/Machine/Dispatch.lean ====
section
/-! DEFINITION. The meaning of every operation of the opcode table (30_encoding.md R66), one arm each. -/

namespace Sys2Proof.Machine

def exec (i : Instr) (s : State) : Host.Outcome State Fault Refusal :=
  match i with
  | .mrd addr => Sys2Proof.Machine.execMrd addr s
  | .mwr addr v => Sys2Proof.Machine.execMwr addr v s
  | .typerd slot => Sys2Proof.Machine.execTyperd slot s
  | .brrd page high => Sys2Proof.Machine.execBrrd page high s
  | .iord port => Sys2Proof.Machine.execIord port s
  | .statwr slot v => Sys2Proof.Machine.execStatwr slot v s
  | .dsctl high v => Sys2Proof.Machine.execDsctl high v s
  | .brwr page high v => Sys2Proof.Machine.execBrwr page high v s
  | .iowr port v => Sys2Proof.Machine.execIowr port v s
  | .encpu => Sys2Proof.Machine.execEncpu s
  | .stopcpu => Sys2Proof.Machine.execStopcpu s
  | .rstcpu => Sys2Proof.Machine.execRstcpu s
  | .nmicpu => Sys2Proof.Machine.execNmicpu s
  | .hreset => Sys2Proof.Machine.execHreset s
  | .tick => Sys2Proof.Machine.execTick s
  | .speedchg khz => Sys2Proof.Machine.execSpeedchg khz s
  | .smrd addr => Sys2Proof.Machine.execSmrd addr s
  | .smwr addr v => Sys2Proof.Machine.execSmwr addr v s
  | .siord port => Sys2Proof.Machine.execSiord port s
  | .drvsel high v => Sys2Proof.Machine.execDrvsel high v s
  | .gideact port v => Sys2Proof.Machine.execGideact port v s
  | .dmaact port v => Sys2Proof.Machine.execDmaact port v s
  | .pagewr high v => Sys2Proof.Machine.execPagewr high v s
  | .siowr port v => Sys2Proof.Machine.execSiowr port v s
  | .loopenter => Sys2Proof.Machine.execLoopenter s
  | .wexit => Sys2Proof.Machine.execWexit s
  | .sfault => Sys2Proof.Machine.execSfault s

end Sys2Proof.Machine
end

