-- ==== Sys2Proof/Machine/Step.lean ====
section
/-! DEFINITION. One step: the next transaction of the total order (00_scope.md R8, 20_memory.md R50) is decoded and
executed. With no word waiting the block is idle (10_state.md R12: nothing sequences it but arrivals). -/

namespace Sys2Proof.Machine

/-- One step (log 1). -/
def step (s : State) : Host.Outcome State Fault Refusal :=
  match fetch s with
  | none => .next s
  | some (w, arrived) =>
    match decode s.cfg w with
    | .error r => .refused (.undecodable r)
    | .ok i => exec i arrived

/-- The same state with a word, numbered as the opcode table numbers it, put first in the arrival order (log 1). -/
def State.withFetchWord (s : State) (nbits w : Nat) : State := { s with inputs := txWordOf nbits w :: s.inputs }

end Sys2Proof.Machine
end

