-- ==== Sys2Proof/Machine/Outputs.lean ====
section
/-! DEFINITION. What a collaborator sees of the state without a transaction: the answer to the floppy controller's selector
(44_peripheral_glue.md R166), the level outputs of 30_encoding.md R69, and the error class of an answer (60_exceptions.md
R200). -/

namespace Sys2Proof.Machine

/-- `DriveSelect()`: the lowest set bit of the drive mask, none for the mask 0 (R166). -/
def State.driveSelect (s : State) : Option (Fin 4) :=
  if s.driveMask.getLsbD 0 then some 0
  else if s.driveMask.getLsbD 1 then some 1
  else if s.driveMask.getLsbD 2 then some 2
  else if s.driveMask.getLsbD 3 then some 3
  else none

/-- An indicator is on exactly while its counter is not 0 (R163). -/
def State.indicatorOn (s : State) (i : Indicator) : Bool := s.glow i != 0

/-- The level outputs of the signal-level view (R69, informative): `s_run`, `led_gide`, `led_dma`, one-hot `ds_sel`. -/
structure OutputLines where
  sRun : Bool
  ledGide : Bool
  ledDma : Bool
  dsSel : BitVec 4
  deriving DecidableEq, Repr

/-- The level outputs of a state (R69). -/
def State.outputLines (s : State) : OutputLines :=
  { sRun := s.workerLive, ledGide := s.indicatorOn .gide, ledDma := s.indicatorOn .dma
    dsSel := match s.driveSelect with
      | none => 0
      | some i => 1#4 <<< i.val }

/-- The numeric code of an error class (R200). -/
def ErrorClass.code : ErrorClass → Nat
  | .addressMiss => 0
  | .writeProtect => 1
  | .secondaryFault => 2
  | .configMismatch => 3

/-- The error class an answer shows, if any (R200): classes 0 and 1 are visible only as the result. -/
def Answer.errorClass : Answer → Option ErrorClass
  | .silent => none
  | .hostRead true _ => none
  | .hostRead false _ => some .addressMiss
  | .hostWrite .notHandled => some .addressMiss
  | .hostWrite .handledBlocked => some .writeProtect
  | .hostWrite .handledWritten => none
  | .secRead _ => none

/-- The classes that are reported to the error sink (R200). -/
def ErrorClass.reported : ErrorClass → Bool
  | .addressMiss => false
  | .writeProtect => false
  | .secondaryFault => true
  | .configMismatch => true

end Sys2Proof.Machine
end

