-- ==== Sys2Proof/Safety.lean ====
section
/-! DEFINITION. The terms in which claims about the block are put: the invariant of its states (10_state.md R10, R28;
42_secondary_lifecycle.md R128), what the environment may issue (R129), and which part of the state each side owns
(60_exceptions.md R208). -/

namespace Sys2Proof.Machine

/-- `MODS` of a state (R87). -/
def State.modParams (s : State) : List ModuleParams := s.mods.map (·.params)

/-- A module's store is in canonical form and inside the module's `N`; only a RAM has one (R21). -/
def Module.storeOk (m : Module) : Bool :=
  m.store.wf && m.store.clearedBelow == 0
    && match m.params.kind with
       | .ram dec _ => cellsBelow dec.storeSize m.store.cells
       | .rom _ _ => m.store.cells.isEmpty
       | .peripheral => m.store.cells.isEmpty
       | .ds => m.store.cells.isEmpty

/-- A non-switchable module keeps its `INIT_STATUS` (R11, R85). -/
def Module.statusOk (m : Module) : Bool := m.params.switchable || m.status == m.params.initStatus

/-- The largest afterglow count, `65535 * 100` (R28). -/
def maxGlow : Nat := 6553500

/-- A counter within R28; where speed changes rescale it, within the load value of the present speed (R161, R165). -/
def glowOk (d : DsParams) (glow : Nat) (speed : KHz) : Bool :=
  decide (glow ≤ maxGlow)
    && match d.afterglow with
       | .rescale => decide (glow ≤ speed.toNat * 100)
       | .keep => true

/-- State that a configuration does not have (R10, "exists when") stays at its construction value. -/
def State.absentOk (s : State) : Bool :=
  match s.cfg.ds with
  | none =>
    s.latch == 0 && s.secMem == .unwritten && s.runLevel == .down && s.driveMask == 0 && s.div8 == 0
      && s.gideGlow == 0 && s.dmaGlow == 0 && !s.clkSel && !s.pageEn && s.pageBank == 0 && s.pageRam == .unwritten
      && !s.workerLive && !s.coldPending
  | some d =>
    (d.gidePresent || s.gideGlow == 0)
      && (d.fixedSpeed.isNone || !s.clkSel)
      && match d.variant with
         | .ext _ => true
         | .base => s.dmaGlow == 0 && !s.clkSel && !s.pageEn && s.pageBank == 0 && s.pageRam == .unwritten

/-- The invariant of the block's states. -/
structure State.Inv (s : State) : Prop where
  /-- the configuration meets R5 -/
  config : s.cfg.admits s.modParams = true
  /-- stores canonical and in range (R21, R103) -/
  stores : s.mods.all Module.storeOk = true
  /-- non-switchable modules at `INIT_STATUS` (R11) -/
  statuses : s.mods.all Module.statusOk = true
  /-- `sec.mem` canonical, inside 64K, cold-cleared below the bridge window or not at all (R22, R124) -/
  secMem : s.secMem.wf = true ∧ cellsBelow 0x10000 s.secMem.cells = true ∧
    (s.secMem.clearedBelow = 0 ∨ s.secMem.clearedBelow = bridgeMemBase)
  /-- `sec.pageRam` canonical and inside 128 x 16K (R23) -/
  pageRam : s.pageRam.wf = true ∧ cellsBelow 0x200000 s.pageRam.cells = true ∧ s.pageRam.clearedBelow = 0
  /-- `sec.workerLive = 0` implies `sec.runLevel = Down` (R128) -/
  stopped : s.workerLive = false → s.runLevel = .down
  /-- `sec.coldPending = 1` implies `sec.workerLive = 1` and `sec.runLevel != Running` (R128) -/
  cold : s.coldPending = true → s.workerLive = true ∧ s.runLevel ≠ .running
  /-- `sec.speedKHz` is nonzero (R10, R20) -/
  speed : s.speedKHz ≠ 0
  /-- the counters are within R28 -/
  glows : ∀ d, s.cfg.ds = some d → glowOk d s.gideGlow s.speedKHz = true ∧ glowOk d s.dmaGlow s.speedKHz = true
  /-- what the configuration lacks is at its construction value (R10) -/
  absent : s.absentOk = true

/-- R129, R67: the environment issues the operation in this state: the secondary CPU and its ticks only with a worker
that has entered its loop, run control only what is enabled. -/
def environmentIssues (s : State) : Instr → Bool
  | .smrd _ | .smwr _ _ | .siord _ => s.workerLive && !s.coldPending
  | .drvsel _ _ | .gideact _ _ | .dmaact _ _ | .pagewr _ _ | .siowr _ _ => s.workerLive && !s.coldPending
  | .tick => s.workerLive && !s.coldPending
  | .loopenter => s.canEnter
  | .wexit => s.canExit
  | .sfault => s.canFault
  | .mrd _ | .mwr _ _ | .typerd _ | .brrd _ _ | .iord _ | .statwr _ _ | .dsctl _ _ | .brwr _ _ _ | .iowr _ _ => true
  | .encpu | .stopcpu | .rstcpu | .nmicpu | .hreset | .speedchg _ => true

/-- The host-side state (R208): modules with their status bytes and stores, the control latch, the clock bit. -/
def State.hostSide (s : State) : List Module × BitVec 4 × Bool := (s.mods, s.latch, s.clkSel)

/-- The lifecycle state (R24 to R26). -/
def State.lifecycle (s : State) : RunLevel × Bool × Bool := (s.runLevel, s.workerLive, s.coldPending)

/-- The secondary CPU's registers and indicators (R18, R19, R27, R28). -/
def State.secRegisters (s : State) : BitVec 4 × BitVec 3 × Nat × Nat × Bool × BitVec 7 :=
  (s.driveMask, s.div8, s.gideGlow, s.dmaGlow, s.pageEn, s.pageBank)

/-- The actions of some control bits, executed one after the other, each in the state the one before it left (R142, R204
item 4). An action has no fault and, with a disk station, no refusal; one that had would leave the state as it is. -/
def State.executeActions (s : State) (bits : List CtrlBit) : State :=
  bits.foldl (fun u b =>
    match exec b.action u with
    | .next u' => u'
    | .fault _ => u
    | .refused _ => u) s

/-- The configuration (R10: constants, not state). -/
def State.configuration (s : State) : Config × List ModuleParams := (s.cfg, s.modParams)

end Sys2Proof.Machine
end

