-- ==== Sys2Proof/Certificates/Slice0/Obligations.lean ====
section
/-! DEFINITION. The statements for the provers, from the numbered rules of spec/. A clause on the kind codes of a word rests
on the spec's own encoding (decision D2); other decisions of 92_eei_decisions.md a statement rests on are named in its
docstring. Every statement holds for every configuration its hypotheses admit. -/

open Sys2Proof Sys2Proof.Machine

/-! ## Encoding -/

/-- Decode inverts encode, for every transaction of every configuration that meets R5 (R60 to R65, R68; D2). -/
def Obligations.DecodeInvertsEncode : Prop :=
  ∀ (c : Config) (i : Instr), c.wf = true → i.wellFormed c = true → i.isTransaction = true →
    ∃ w, encode c i = some w ∧ decode c w = .ok i

/-- What the decoder answers is a transaction the configuration has, whose canonical word has the same kind and
decodes alike (R60, R64, R65; D2, D34). -/
def Obligations.DecodedOperationsAreWellFormed : Prop :=
  ∀ (c : Config) (w : TxWord) (i : Instr), decode c w = .ok i →
    i.wellFormed c = true ∧ i.isTransaction = true ∧
      ∃ w', encode c i = some w' ∧ txKind w' = txKind w ∧ decode c w' = .ok i

/-- The decoder refuses exactly the words of R67: kinds 7 and 15; the secondary kinds (R62) and the two clock kinds (the
model's reading, log 11) without a disk station; `SPEEDCHG 0`. Executed in a configuration without a disk station, every
operation of the secondary CPU, of run control and of the clock, and `DSCTL`, `ENCPU`, `STOPCPU`, `RSTCPU` and `NMICPU`,
are refused by name; `BRRD` and `BRWR` are not, they run there as the general search of their port (log 9). -/
def Obligations.DecoderRefusesExactlyReservedWords : Prop :=
  ∀ (c : Config) (w : TxWord),
    (decode c w = .error .reservedKind ↔ txKind w = 0x7 ∨ txKind w = 0xF) ∧
    (decode c w = .error .noDiskStation ↔
      c.ds = none ∧ (txKind w = 0x5 ∨ txKind w = 0x6 ∨ (8 ≤ (txKind w).toNat ∧ txKind w ≠ 0xF))) ∧
    (decode c w = .error .zeroSpeed ↔ c.ds ≠ none ∧ txKind w = 0x6 ∧ txAddr w = 0) ∧
    ∀ (s : State) (i : Instr), s.cfg.ds = none →
      (i.agent ≠ .host ∨ i = .encpu ∨ i = .stopcpu ∨ i = .rstcpu ∨ i = .nmicpu ∨ ∃ high v, i = .dsctl high v) →
        exec i s = .refused .noDiskStation

/-- Words of 95_test_vectors.md under CFG-T decode to their operations. -/
def Obligations.TableWordsDecode : Prop :=
  decodeTableWord 32 0x0800000 = some (.mrd 0x8000) ∧
  decodeTableWord 32 0x1BFFF22 = some (.mwr 0xBFFF 0x22) ∧
  decodeTableWord 32 0x2FC8000 = some (.typerd 0xFC) ∧
  decodeTableWord 32 0x212F000 = some (.brrd 0 0x12) ∧
  decodeTableWord 32 0x300F411 = some (.dsctl 0x00 0x11) ∧
  decodeTableWord 32 0x3FFF3A5 = some (.brwr 3 0xFF 0xA5) ∧
  decodeTableWord 32 0x60FA000 = some (.speedchg 4000) ∧
  decodeTableWord 32 0xB12F802 = some (.drvsel 0x12 0x02) ∧
  decodeTableWord 32 0xB00EC85 = some (.pagewr 0x00 0x85) ∧
  decodeTableWord 32 0xC000000 = some .loopenter ∧
  decodeTableWord 32 0x6000000 = none

/-- A step runs the decoded operation in the state with the word taken and counted; a word that spells no transaction is
refused; with no word waiting the block is idle (R8, R12, R67; the queue is the model's, log 1). -/
def Obligations.StepRunsDecodedOperation : Prop :=
  ∀ (s : State),
    (∀ w rest i, s.inputs = w :: rest → decode s.cfg w = .ok i →
      step s = exec i { s with inputs := rest, arrivals := s.arrivals + 1 }) ∧
    (∀ w rest r, s.inputs = w :: rest → decode s.cfg w = .error r → step s = .refused (.undecodable r)) ∧
    (s.inputs = [] → step s = .next s)

/-- R202: every word of the host bus completes, for every state and every operand value. -/
def Obligations.HostTransactionsAlwaysComplete : Prop :=
  ∀ (s : State) (w : TxWord) (rest : List TxWord), s.inputs = w :: rest → (txKind w).toNat < 5 →
    ∃ t, step s = .next t

/-! ## The ModuleBus: memory -/

/-- R80: the first module in installation order that claims the read answers; unclaimed, `(false, 0xFF)`. -/
def Obligations.MemoryReadFirstClaimAnswers : Prop :=
  (∀ (c : Config) (a : Addr) (d : Byte), decode c (txPack 0x0 a d) = .ok (.mrd a)) ∧
  (∀ (s : State) (a : Addr) (before after : List Module) (m : Module) (v : Byte),
    s.mods = before ++ m :: after → (∀ x ∈ before, x.readMem s.cfg a = none) → m.readMem s.cfg a = some v →
      exec (.mrd a) s = .next (s.setAnswer (.hostRead true v))) ∧
  (∀ (s : State) (a : Addr), (∀ x ∈ s.mods, x.readMem s.cfg a = none) →
    exec (.mrd a) s = .next (s.setAnswer (.hostRead false 0xFF)))

/-- R81: the search stops at the first outcome other than `NOT_HANDLED`; only that module's store may change, at most in
the byte at the index it claims; a handled write stores the byte there, a blocked one changes nothing anywhere. -/
def Obligations.MemoryWriteStopsAtFirstClaim : Prop :=
  (∀ (c : Config) (a : Addr) (v : Byte), decode c (txPack 0x1 a v) = .ok (.mwr a v)) ∧
  (∀ (s : State) (a : Addr) (v : Byte) (before after : List Module) (m : Module),
    s.mods = before ++ m :: after → (∀ x ∈ before, (x.writeMem s.cfg a v).1 = .notHandled) →
    (m.writeMem s.cfg a v).1 ≠ .notHandled →
      ∃ m', exec (.mwr a v) s =
          .next ((s.setMods (before ++ m' :: after)).setAnswer (.hostWrite (m.writeMem s.cfg a v).1)) ∧
        m'.params = m.params ∧ m'.status = m.status ∧
        m' = (m.writeMem s.cfg a v).2 ∧
        (∀ k, m.claimIndex s.cfg a ≠ some k → m'.store.get k = m.store.get k) ∧
        ((m.writeMem s.cfg a v).1 = .handledWritten →
          ∃ k, m.claimIndex s.cfg a = some k ∧ m'.store.get k = some v) ∧
        ((m.writeMem s.cfg a v).1 = .handledBlocked → m' = m)) ∧
  (∀ (s : State) (a : Addr) (v : Byte), (∀ x ∈ s.mods, (x.writeMem s.cfg a v).1 = .notHandled) →
    exec (.mwr a v) s = .next (s.setAnswer (.hostWrite .notHandled)))

/-- The write-protect precedence of R81 and R246 (test vector S2; the polarity of the bit is decision D9): an enabled RAM
with its write-enable bit 0 whose window holds the address ends the search, and no module changes. -/
def Obligations.WriteProtectedRamMasksLaterModules : Prop :=
  ∀ (s : State) (a : Addr) (v : Byte) (before after : List Module) (m : Module) (dec : Decoder) (we : Fin 8),
    s.mods = before ++ m :: after → (∀ x ∈ before, x.claimIndex s.cfg a = none) →
    m.params.kind = .ram dec we → m.status.getLsbD 0 = true → dec.inWindow m.status a = true →
    m.status.getLsbD we.val = false →
      exec (.mwr a v) s = .next (s.setAnswer (.hostWrite .handledBlocked))

/-- R104: a module with a window claims a read exactly when bit 0 of its status is 1 and the address is in
`[baseAddress, baseAddress + W)`; a RAM claims a write on the same condition, whatever its write-enable bit; a module
without a window claims nothing. -/
def Obligations.ClaimTestIsEnableAndWindow : Prop :=
  ∀ (c : Config) (m : Module) (a : Addr),
    (∀ d, m.decoder? c = some d →
      ((m.readMem c a).isSome = true ↔
        m.status.getLsbD 0 = true ∧ (m.status.toNat <<< 8) &&& d.alignMask.toNat ≤ a.toNat ∧
          a.toNat < ((m.status.toNat <<< 8) &&& d.alignMask.toNat) + d.window.bytes)) ∧
    (∀ d we v, m.params.kind = .ram d we →
      ((m.writeMem c a v).1 ≠ .notHandled ↔
        m.status.getLsbD 0 = true ∧ (m.status.toNat <<< 8) &&& d.alignMask.toNat ≤ a.toNat ∧
          a.toNat < ((m.status.toNat <<< 8) &&& d.alignMask.toNat) + d.window.bytes)) ∧
    (∀ v, m.decoder? c = none → m.readMem c a = none ∧ m.writeMem c a v = (.notHandled, m))

/-- The RAM methods of R106 and R107 (polarity D9; an unwritten byte is a free value, log 3): a read gives the store's
byte; a write with the write-enable bit 1 changes that byte alone, with 0 nothing. -/
def Obligations.RamReadsAndWritesItsStore : Prop :=
  ∀ (c : Config) (m : Module) (d : Decoder) (we : Fin 8) (a : Addr) (v : Byte),
    m.params.kind = .ram d we → m.status.getLsbD 0 = true → d.inWindow m.status a = true →
      m.readMem c a = some (readByte (.module m.params.slotId) m.store (d.index m.status a)) ∧
      (m.status.getLsbD we.val = false → m.writeMem c a v = (.handledBlocked, m)) ∧
      (m.status.getLsbD we.val = true →
        ∃ m', m.writeMem c a v = (.handledWritten, m') ∧ m'.params = m.params ∧ m'.status = m.status ∧
          m'.readMem c a = some v ∧
          ∀ id k, k ≠ d.index m.status a → readByte id m'.store k = readByte id m.store k)

/-- R105, and R109 for the disk station's ROM: with its decoder and its image a ROM answers the image byte at
`(addr - baseAddress) | segmentMask`, and never changes; the outcome of a write in its window is the parameter
`ROM_WRITE_OUTCOME` (R108, D10). The disk station's decoder has in `BASE` the window and the store `DS_ROM_W` and no segment
(R109), in `EXT` the base mask of R180 (its size and its banks: `ExtRomWindowHasFourBanks`). A listed image byte is the
configuration's; any other is a free constant (log 5). -/
def Obligations.RomReadsImageAndNeverChanges : Prop :=
  (∀ (c : Config) (m : Module) (dec : Decoder) (image : List Host.Cell) (a : Addr) (v : Byte),
    (m.params.kind = .rom dec image ∨
      ∃ d, c.ds = some d ∧ m.params.kind = .ds ∧ dec = d.romDecoder ∧ image = d.romImage) →
      (m.status.getLsbD 0 = true → dec.inWindow m.status a = true →
        m.readMem c a = some (romByte m.params.slotId image
          ((a.toNat - ((m.status.toNat <<< 8) &&& dec.alignMask.toNat)) ||| dec.segmentMask m.status))) ∧
      ((m.status.getLsbD 0 = false ∨ dec.inWindow m.status a = false) →
        m.readMem c a = none ∧ (m.writeMem c a v).1 = .notHandled) ∧
      (m.status.getLsbD 0 = true → dec.inWindow m.status a = true →
        (m.writeMem c a v).1 = match c.romWriteOutcome with
          | .notHandled => .notHandled
          | .handledBlocked => .handledBlocked) ∧
      (m.writeMem c a v).2 = m) ∧
  ∀ (d : DsParams),
    (d.variant = .base →
      d.romDecoder.window.bytes = d.romWindow.bytes ∧ d.romDecoder.storeSize = d.romWindow.bytes ∧
      d.romDecoder.alignMask = d.romAlignMask ∧ (∀ status, d.romDecoder.segmentMask status = 0) ∧
      (d.wf = true → d.romDecoder.wf = true)) ∧
    (∀ e, d.variant = .ext e →
      d.romDecoder.alignMask.toNat = d.romAlignMask.toNat &&& (0x10000 - 4 * d.romWindow.bytes))

/-- R103 and the testable property S7: in a well-formed decoder the base is a multiple of `W`, the window does not wrap,
membership is a comparison of masked bits, and every index is the sum of offset and segment mask and below `N`. -/
def Obligations.WindowIndexStaysInsideStore : Prop :=
  ∀ (d : Decoder) (status : Byte) (a : Addr), d.wf = true →
    d.baseAddress status % d.window.bytes = 0 ∧
    d.baseAddress status + d.window.bytes ≤ 0x10000 ∧
    (d.inWindow status a = true ↔ a.toNat &&& (0x10000 - d.window.bytes) = d.baseAddress status) ∧
    (d.inWindow status a = true →
      d.offset status a = a.toNat % d.window.bytes ∧
      d.index status a = d.offset status a + d.segmentMask status ∧
      d.index status a < d.storeSize)

/-- "segments never overlap" (R102, R107): two accesses reach one store byte only with the same segment mask and the
same offset. -/
def Obligations.SegmentsNeverAlias : Prop :=
  ∀ (d : Decoder) (s₁ s₂ : Byte) (a₁ a₂ : Addr), d.wf = true → d.inWindow s₁ a₁ = true → d.inWindow s₂ a₂ = true →
    d.index s₁ a₁ = d.index s₂ a₂ → d.segmentMask s₁ = d.segmentMask s₂ ∧ d.offset s₁ a₁ = d.offset s₂ a₂

/-- R180 (D25): the `EXT` ROM window is four times `DS_ROM_W`, its decoder is well formed, and its segment mask is the
window size times the two-bit bank number in the status bits `log2 W - DS2_BANK_SHIFT` and the one above. -/
def Obligations.ExtRomWindowHasFourBanks : Prop :=
  ∀ (d : DsParams) (e : ExtParams), d.variant = .ext e → d.wf = true →
    d.romDecoder.wf = true ∧
    d.romDecoder.window.bytes = 4 * d.romWindow.bytes ∧
    d.romDecoder.storeSize = 16 * d.romWindow.bytes ∧
    ∀ status : Byte,
      d.romDecoder.segmentMask status =
        4 * d.romWindow.bytes * ((status.toNat >>> (d.extWindowLog - e.bankShift)) % 4)

/-! ## The module control port and host I/O -/

/-- R84 (D5, D6): the type byte of the addressed slot, or the fill byte for an empty slot. -/
def Obligations.TypeReadAnswersSlot : Prop :=
  (∀ (c : Config) (slot d : Byte), decode c (txPack 0x2 (mkPort slot c.statusPort) d) = .ok (.typerd slot)) ∧
  (∀ (s : State) (slot : Byte) (m : Module), slotsDistinct s.modParams = true → m ∈ s.mods → m.params.slotId = slot →
    exec (.typerd slot) s = .next (s.setAnswer (.hostRead true m.params.typeByte))) ∧
  (∀ (s : State) (slot : Byte), (∀ m ∈ s.mods, m.params.slotId ≠ slot) →
    exec (.typerd slot) s = .next (s.setAnswer (.hostRead false 0xFF)))

/-- R85 with R100 (D7): an empty slot is not handled; a non-switchable module blocks; otherwise the status byte of that
module alone is replaced, its store is kept, and every flag follows from the new byte. -/
def Obligations.StatusWriteReplacesOneStatusByte : Prop :=
  ∀ (s : State) (slot v : Byte), slotsDistinct s.modParams = true →
    decode s.cfg (txPack 0x3 (mkPort slot s.cfg.statusPort) v) = .ok (.statwr slot v) ∧
    ((∀ m ∈ s.mods, m.params.slotId ≠ slot) →
      exec (.statwr slot v) s = .next (s.setAnswer (.hostWrite .notHandled))) ∧
    (∀ before m after, s.mods = before ++ m :: after → m.params.slotId = slot →
      (m.params.switchable = false → exec (.statwr slot v) s = .next (s.setAnswer (.hostWrite .handledBlocked))) ∧
      (m.params.switchable = true →
        ∃ m', exec (.statwr slot v) s =
            .next ((s.setMods (before ++ m' :: after)).setAnswer (.hostWrite .handledWritten)) ∧
          m'.params = m.params ∧ m'.store = m.store ∧ m'.status = v ∧ m'.enabled = v.getLsbD 0 ∧
          (∀ we, m'.writeEnable we = v.getLsbD we.val) ∧ (∀ d, m'.connected d = v.getLsbD d.connectBit.val)))

/-- R82 (D5, D32): the first module that claims the port answers, else `(false, 0xFF)`; ROM and RAM modules claim no
port. -/
def Obligations.IoReadFirstClaimAnswers : Prop :=
  (∀ (s : State) (p : Port) (before after : List Module) (m : Module) (v : Byte),
    s.mods = before ++ m :: after → (∀ x ∈ before, x.readIO s p = none) → m.readIO s p = some v →
      exec (.iord p) s = .next (s.setAnswer (.hostRead true v))) ∧
  (∀ (s : State) (p : Port), (∀ x ∈ s.mods, x.readIO s p = none) →
    exec (.iord p) s = .next (s.setAnswer (.hostRead false 0xFF))) ∧
  (∀ (s : State) (p : Port) (m : Module) (d : Decoder),
    ((∃ image, m.params.kind = .rom d image) ∨ (∃ we, m.params.kind = .ram d we)) →
      m.readIO s p = none ∧ m.claimIoWrite s p = none)

/-- R83 (D32) on a port that no disk-station rule names (R64): the write answers `HANDLED_WRITTEN` when some peripheral
module claims it and `NOT_HANDLED` otherwise, and changes nothing inside the block. Whether a peripheral module claims is
a free value (log 6). -/
def Obligations.IoWriteGeneralPortChangesNothing : Prop :=
  ∀ (s : State) (p : Port) (v : Byte), (Instr.iowr p v).wellFormed s.cfg = true →
    ∃ o, exec (.iowr p v) s = .next (s.setAnswer (.hostWrite o)) ∧
      (o = .handledWritten ↔ ∃ m ∈ s.mods, m.claimIoWrite s p = some .peripheral) ∧
      (o = .notHandled ↔ ∀ m ∈ s.mods, m.claimIoWrite s p ≠ some .peripheral)

/-! ## The bridge -/

/-- R140 with R82 and R64 (D16): connected and first to claim, the disk station answers
`sec.mem[0xFC00 + 0x100 * (portLow - 0xF0) + portHigh]`; a module earlier in the order that claims the port wins and
answers its own value (a peripheral module's claim and value are free, log 6). Nothing changes. -/
def Obligations.BridgeReadAnswersSecondaryByte : Prop :=
  ∀ (s : State) (d : DsParams) (page : BitVec 2) (high : Byte) (before after : List Module) (m : Module),
    s.cfg.ds = some d → s.mods = before ++ m :: after → m.params.kind = .ds →
    m.status.getLsbD d.connectBit.val = true →
      exec (.brrd page high) s =
        .next (s.setAnswer (.hostRead true
          ((before.findSome? fun x => x.readIO s (mkPort high (bridgePort page))).getD
            (s.secByte (0xFC00 + 0x100 * page.toNat + high.toNat)))))

/-- R141 with R83 and R64 (D16): connected and first to claim, the disk station stores the byte at the bridge address; every
other byte of the secondary memory and every other piece of state is as before. Where a peripheral module earlier in the
order claims the port (a free value, log 6), it takes the write: `HANDLED_WRITTEN`, and nothing in the block changes. -/
def Obligations.BridgeWriteStoresOneByte : Prop :=
  ∀ (s : State) (d : DsParams) (page : BitVec 2) (high v : Byte) (before after : List Module) (m : Module),
    s.cfg.wf = true → s.cfg.ds = some d → s.mods = before ++ m :: after → m.params.kind = .ds →
    m.status.getLsbD d.connectBit.val = true →
    (∀ x ∈ before, x.claimIoWrite s (mkPort high (bridgePort page)) = none ∨ x.params.kind = .peripheral) →
      ∃ t, exec (.brwr page high v) s = .next t ∧
        ((∃ x ∈ before, x.claimIoWrite s (mkPort high (bridgePort page)) ≠ none) →
          t = s.setAnswer (.hostWrite .handledWritten)) ∧
        ((∀ x ∈ before, x.claimIoWrite s (mkPort high (bridgePort page)) = none) →
          t = (s.setSecMem t.secMem).setAnswer (.hostWrite .handledWritten) ∧
          t.secByte (0xFC00 + 0x100 * page.toNat + high.toNat) = v ∧
          ∀ a, a ≠ 0xFC00 + 0x100 * page.toNat + high.toNat → t.secByte a = s.secByte a)

/-- R145: while the disk station is not connected its bridge ports do not exist for the host: its methods claim neither a
read nor a write of them; a bridge read is the general read of the same port and yields the fill byte unless a peripheral
module claims it; a write changes nothing but its answer. That such a word has the effect of the general operation is the
model's reading of R64, R82 and R145 (log 9). The secondary CPU's own accesses do not depend on the modules, and so not on
the connection. -/
def Obligations.DisconnectedBridgeDoesNotExist : Prop :=
  ∀ (s : State) (page : BitVec 2) (high v : Byte), s.cfg.wf = true → s.connected = false →
    (∀ m ∈ s.mods, m.params.kind = .ds →
      m.readIO s (mkPort high (bridgePort page)) = none ∧ m.claimIoWrite s (mkPort high (bridgePort page)) = none) ∧
    exec (.brrd page high) s = exec (.iord (mkPort high (bridgePort page))) s ∧
    ((∀ m ∈ s.mods, m.params.kind ≠ .peripheral) →
      exec (.brrd page high) s = .next (s.setAnswer (.hostRead false 0xFF))) ∧
    (∃ o, exec (.brwr page high v) s = .next (s.setAnswer (.hostWrite o)) ∧
      ((∀ m ∈ s.mods, m.params.kind ≠ .peripheral) → o = .notHandled)) ∧
    ∀ (a : Addr) (t : State) (mods : List Module),
      (exec (.smrd a) s = .next t → exec (.smrd a) { s with mods := mods } = .next { t with mods := mods }) ∧
      (exec (.smwr a v) s = .next t → exec (.smwr a v) { s with mods := mods } = .next { t with mods := mods })

/-! ## The control port and the lifecycle -/

/-- R142 with R144, R64 and R204 (D14, D15): claimed first, a control write stores its low four bits in the latch and then
performs the operations of its rising bits, each in the state the one before it left, in `CTRL_EDGE_ORDER`. Stated where
no clock-rate bit acts: `BASE`, a fixed speed, or the bit at its present level (R186; the other form is
`ClockBitSetsRate`). Where a peripheral module earlier in the order claims the port (a free value, log 6), it takes the
write: `HANDLED_WRITTEN`, and nothing in the block changes. -/
def Obligations.ControlWriteRunsRisingActions : Prop :=
  ∀ (s : State) (d : DsParams) (high v : Byte) (before after : List Module) (m : Module),
    s.cfg.ds = some d → s.mods = before ++ m :: after → m.params.kind = .ds →
    (m.status.getLsbD d.connectBit.val = true ∨ d.ctrlNeedsConnect = false) →
    (∀ x ∈ before, x.claimIoWrite s (mkPort high d.ctrlPort) = none ∨ x.params.kind = .peripheral) →
      ∃ t, exec (.dsctl high v) s = .next t ∧
        ((∃ x ∈ before, x.claimIoWrite s (mkPort high d.ctrlPort) ≠ none) →
          t = s.setAnswer (.hostWrite .handledWritten)) ∧
        ((∀ x ∈ before, x.claimIoWrite s (mkPort high d.ctrlPort) = none) →
          (d.fixedSpeed = none → ∀ e, d.variant = .ext e → v.getLsbD e.clkBit.val = s.clkSel) →
          t = ((s.setLatch (v.extractLsb' 0 4)).executeActions
            (d.edgeOrder.filter fun b => v.getLsbD b.index && !s.latch.getLsbD b.index)).setAnswer
              (.hostWrite .handledWritten))

/-- R242: a control write none of whose low bits rises triggers no action: it changes the latch and its answer alone
(no clock-rate bit acting, as above). -/
def Obligations.HeldControlBitsTriggerNothing : Prop :=
  ∀ (s : State) (d : DsParams) (high v : Byte) (before after : List Module) (m : Module),
    s.cfg.ds = some d → s.mods = before ++ m :: after → m.params.kind = .ds →
    (m.status.getLsbD d.connectBit.val = true ∨ d.ctrlNeedsConnect = false) →
    (∀ x ∈ before, x.claimIoWrite s (mkPort high d.ctrlPort) = none) →
    (d.fixedSpeed = none → ∀ e, d.variant = .ext e → v.getLsbD e.clkBit.val = s.clkSel) →
    (∀ k, k < 4 → v.getLsbD k = true → s.latch.getLsbD k = true) →
      exec (.dsctl high v) s = .next ((s.setLatch (v.extractLsb' 0 4)).setAnswer (.hostWrite .handledWritten))

/-- R144 and R64: with `DS_CTRL_NEEDS_CONNECT` and the bridge disconnected, a control write that no peripheral module
claims is not handled and changes nothing (90_conflicts.md C3). -/
def Obligations.GatedControlWriteIsNotHandled : Prop :=
  ∀ (s : State) (d : DsParams) (high v : Byte), s.cfg.wf = true → s.cfg.ds = some d → d.ctrlNeedsConnect = true →
    s.connected = false → (∀ m ∈ s.mods, m.params.kind ≠ .peripheral) →
      exec (.dsctl high v) s = .next (s.setAnswer (.hostWrite .notHandled))

/-- R186 with R142 and R165 (D23, D27): in `EXT` without a fixed speed, a control write that the disk station is first to
claim performs the operations of its rising bits as ever. Where its clock-rate bit differs from `ds.clkSel` it then takes the
new level, sets the rate of that level, brings each afterglow counter to that rate (rescaled to the least count that lasts as
long, or kept) and emits `SecSpeed` last; with the bit unchanged it does none of this. All else is as the operations
left it. -/
def Obligations.ClockBitSetsRate : Prop :=
  ∀ (s : State) (d : DsParams) (e : ExtParams) (high v : Byte) (before after : List Module) (m : Module),
    s.cfg.ds = some d → d.variant = .ext e → d.fixedSpeed = none → s.mods = before ++ m :: after →
    m.params.kind = .ds → (m.status.getLsbD d.connectBit.val = true ∨ d.ctrlNeedsConnect = false) →
    (∀ x ∈ before, x.claimIoWrite s (mkPort high d.ctrlPort) = none) →
      ∃ t u, exec (.dsctl high v) s = .next t ∧
        u = (s.setLatch (v.extractLsb' 0 4)).executeActions
          (d.edgeOrder.filter fun b => v.getLsbD b.index && !s.latch.getLsbD b.index) ∧
        t.clkSel = v.getLsbD e.clkBit.val ∧ t.latch = v.extractLsb' 0 4 ∧ t.answer = .hostWrite .handledWritten ∧
        (v.getLsbD e.clkBit.val = s.clkSel → t = u.setAnswer (.hostWrite .handledWritten) ∧
          t.speedKHz = s.speedKHz ∧ t.gideGlow = s.gideGlow ∧ t.dmaGlow = s.dmaGlow ∧
          ∀ k, t.events.count (.secSpeed k) = s.events.count (.secSpeed k)) ∧
        (v.getLsbD e.clkBit.val ≠ s.clkSel →
          t = { u with clkSel := t.clkSel, speedKHz := t.speedKHz, gideGlow := t.gideGlow, dmaGlow := t.dmaGlow,
                       events := u.events ++ [.secSpeed t.speedKHz], answer := t.answer } ∧
          t.speedKHz = (if v.getLsbD e.clkBit.val then e.speedB else e.speedA) ∧
          (∃ es, u.events = s.events ++ es ∧ ∀ k, Event.secSpeed k ∉ es) ∧
          (d.afterglow = .keep → t.gideGlow = s.gideGlow ∧ t.dmaGlow = s.dmaGlow) ∧
          (d.afterglow = .rescale → s.speedKHz ≠ 0 → t.speedKHz ≠ 0 →
            ∀ i, (∀ n, s.glow i * t.speedKHz.toNat ≤ n * s.speedKHz.toNat ↔ t.glow i ≤ n) ∧
              (t.glow i = 0 ↔ s.glow i = 0)))

/-- R120: `ENCPU`, triggered by bit 0 rising, starts a worker when there is none, and does nothing at all when there is. -/
def Obligations.EnableStartsOneWorker : Prop :=
  (∀ (order : List CtrlBit) (old : BitVec 4) (v : Byte), CtrlBit.enable ∈ order →
    (CtrlBit.enable ∈ decodeEdges order old v ↔ v.getLsbD 0 = true ∧ old.getLsbD 0 = false)) ∧
  ∀ (s : State) (d : DsParams), s.cfg.ds = some d →
    (s.workerLive = false → exec .encpu s =
      .next { s with workerLive := true, runLevel := .startingUp, coldPending := true }) ∧
    (s.workerLive = true → exec .encpu s = .next s)

/-- R121 (D18): `STOPCPU`, triggered by bit 1 rising, sets the run level to `Down` from every state, and nothing else. -/
def Obligations.StopSetsDown : Prop :=
  (∀ (order : List CtrlBit) (old : BitVec 4) (v : Byte), CtrlBit.stop ∈ order →
    (CtrlBit.stop ∈ decodeEdges order old v ↔ v.getLsbD 1 = true ∧ old.getLsbD 1 = false)) ∧
  ∀ (s : State) (d : DsParams), s.cfg.ds = some d → exec .stopcpu s = .next { s with runLevel := .down }

/-- R122: `RSTCPU`, triggered by bit 2 rising, is effective only while `Running`; otherwise it is dropped. -/
def Obligations.ResetOnlyWhileRunning : Prop :=
  (∀ (order : List CtrlBit) (old : BitVec 4) (v : Byte), CtrlBit.reset ∈ order →
    (CtrlBit.reset ∈ decodeEdges order old v ↔ v.getLsbD 2 = true ∧ old.getLsbD 2 = false)) ∧
  ∀ (s : State) (d : DsParams), s.cfg.ds = some d →
    (s.runLevel = .running → exec .rstcpu s = .next { s with runLevel := .startingUp }) ∧
    (s.runLevel ≠ .running → exec .rstcpu s = .next s)

/-- R123: `NMICPU`, triggered by bit 3 rising, emits one `SecNmi` while `Running`; otherwise it is dropped. -/
def Obligations.NmiOnlyWhileRunning : Prop :=
  (∀ (order : List CtrlBit) (old : BitVec 4) (v : Byte), CtrlBit.nmi ∈ order →
    (CtrlBit.nmi ∈ decodeEdges order old v ↔ v.getLsbD 3 = true ∧ old.getLsbD 3 = false)) ∧
  ∀ (s : State) (d : DsParams), s.cfg.ds = some d →
    (s.runLevel = .running → exec .nmicpu s = .next { s with events := s.events ++ [.secNmi] }) ∧
    (s.runLevel ≠ .running → exec .nmicpu s = .next s)

/-- R124 (D17): enabled exactly in (`StartingUp`, 1), `LOOPENTER` clears `0x0000..0xFBFF` when the cold clear is pending,
keeps every other byte, goes to `Running` and emits `SecReset`; not enabled it has no step (R67). -/
def Obligations.LoopEntryClearsOnceAndRuns : Prop :=
  ∀ (s : State) (d : DsParams), s.cfg.ds = some d →
    (s.workerLive = true → s.runLevel = .startingUp →
      ∃ t, exec .loopenter s = .next t ∧
        t = { s with secMem := t.secMem, coldPending := false, runLevel := .running, answer := .silent,
                     events := s.events ++ [.secReset d.resetVector] } ∧
        (s.coldPending = true →
          (∀ a, a < 0xFC00 → t.secByte a = 0) ∧ ∀ a, 0xFC00 ≤ a → t.secByte a = s.secByte a) ∧
        (s.coldPending = false → t.secMem = s.secMem)) ∧
    (¬(s.workerLive = true ∧ s.runLevel = .startingUp) → exec .loopenter s = .refused (.notEnabled "LOOPENTER"))

/-- R125 (D18): enabled exactly in (`Down`, 1), `WEXIT` clears the worker flip-flop and the pending cold clear. -/
def Obligations.WorkerExitOnlyWhenStopping : Prop :=
  ∀ (s : State) (d : DsParams), s.cfg.ds = some d →
    (s.workerLive = true → s.runLevel = .down →
      exec .wexit s = .next { s with workerLive := false, coldPending := false, answer := .silent }) ∧
    (¬(s.workerLive = true ∧ s.runLevel = .down) → exec .wexit s = .refused (.notEnabled "WEXIT"))

/-- R126 and R205 (D18): enabled exactly with a live worker that has entered its loop in `Running` or `Down`, `SFAULT`
reports one `SecondaryFault`, saves nothing, and sends `Running` to `StartingUp`; a pending stop is not overridden. -/
def Obligations.SecondaryFaultIsContained : Prop :=
  ∀ (s : State) (d : DsParams), s.cfg.ds = some d →
    (s.workerLive = true → s.coldPending = false → s.runLevel = .running →
      exec .sfault s = .next { s with runLevel := .startingUp, answer := .silent,
                                      events := s.events ++ [.errorReport .secondaryFault] }) ∧
    (s.workerLive = true → s.coldPending = false → s.runLevel = .down →
      exec .sfault s = .next { s with answer := .silent,
                                      events := s.events ++ [.errorReport .secondaryFault] }) ∧
    (¬(s.workerLive = true ∧ s.coldPending = false ∧ (s.runLevel = .running ∨ s.runLevel = .down)) →
      exec .sfault s = .refused (.notEnabled "SFAULT"))

/-- The lost enable of R241 (D18): with a worker in the stopping state, a control write that raises bit 0 alone consumes
the edge and starts nothing, and after the exit the same write finds no edge and still starts nothing. -/
def Obligations.EnableWhileStoppingIsLost : Prop :=
  ∀ (s : State) (d : DsParams), s.cfg.ds = some d → s.workerLive = true → s.runLevel = .down →
    s.latch = 0 → s.cfg.admits s.modParams = true → d.ctrlNeedsConnect = false →
    (∀ m ∈ s.mods, m.params.kind ≠ .peripheral) →
      ∃ t u w, exec (.dsctl 0 0x01) s = .next t ∧ exec .wexit t = .next u ∧ exec (.dsctl 0 0x01) u = .next w ∧
        t.lifecycle = s.lifecycle ∧ t.latch = 1 ∧ w.runLevel = .down ∧ w.workerLive = false ∧ w.latch = 1

/-- The boot of R233 (D37) and property S8: from the stopped state with latch bit 0 clear, a control write `0x01` and the
`LOOPENTER` that follows give a running CPU with `0x0000..0xFBFF` zero and every bridge-window byte as it was. -/
def Obligations.BootKeepsBootstrapAndClearsRest : Prop :=
  ∀ (s : State) (d : DsParams), s.cfg.ds = some d → s.workerLive = false → s.latch.getLsbD 0 = false →
    s.cfg.admits s.modParams = true → d.ctrlNeedsConnect = false → (∀ m ∈ s.mods, m.params.kind ≠ .peripheral) →
      ∃ t u, exec (.dsctl 0 0x01) s = .next t ∧ exec .loopenter t = .next u ∧
        u.lifecycle = (.running, true, false) ∧
        (∀ a, a < 0xFC00 → u.secByte a = 0) ∧ (∀ a, 0xFC00 ≤ a → u.secByte a = s.secByte a) ∧
        u.mods = s.mods ∧ u.pageRam = s.pageRam

/-- R130, R206, R232, R244: a running worker that is reset or faults keeps all of memory and every register of the secondary
side, its speed among them: the re-entry after `RSTCPU` or `SFAULT` clears nothing, and it is running again. -/
def Obligations.RecoveryKeepsMemory : Prop :=
  ∀ (s : State) (d : DsParams), s.cfg.ds = some d → s.workerLive = true → s.coldPending = false →
    s.runLevel = .running →
      (∃ t u, exec .rstcpu s = .next t ∧ exec .loopenter t = .next u ∧ u.secMem = s.secMem ∧ u.pageRam = s.pageRam ∧
        u.lifecycle = s.lifecycle ∧ u.secRegisters = s.secRegisters ∧ u.speedKHz = s.speedKHz ∧ u.hostSide = s.hostSide ∧
        u.events = s.events ++ [.secReset d.resetVector]) ∧
      (∃ t u, exec .sfault s = .next t ∧ exec .loopenter t = .next u ∧ u.secMem = s.secMem ∧ u.pageRam = s.pageRam ∧
        u.lifecycle = s.lifecycle ∧ u.secRegisters = s.secRegisters ∧ u.speedKHz = s.speedKHz ∧ u.hostSide = s.hostSide ∧
        u.events = s.events ++ [.errorReport .secondaryFault, .secReset d.resetVector])

/-! ## The secondary CPU's transactions -/

/-- R146 and R182 (D26): a secondary read answers the paged byte when the enabled page window holds the address (`EXT`),
otherwise the byte of `sec.mem`, and changes nothing but the answer. -/
def Obligations.SecondaryReadAnswersPageOrMemory : Prop :=
  ∀ (s : State) (d : DsParams) (a : Addr), s.cfg.ds = some d →
    (∀ e, d.variant = .ext e → s.pageEn = true → a &&& 0xC000 = e.pageWindowBase →
      exec (.smrd a) s =
        .next (s.setAnswer (.secRead (s.pageByte (s.pageBank.toNat * 0x4000 + a.toNat % 0x4000))))) ∧
    ((∀ e, d.variant = .ext e → s.pageEn = true → a &&& 0xC000 ≠ e.pageWindowBase) →
      exec (.smrd a) s = .next (s.setAnswer (.secRead (s.secByte a.toNat))))

/-- R147, R183 and R184 (D26): a secondary write stores one byte, of the selected page when the enabled page window holds
the address (`EXT`), otherwise of `sec.mem`; every other byte of both arrays and all other state is as before. -/
def Obligations.SecondaryWriteStoresOneByte : Prop :=
  ∀ (s : State) (d : DsParams) (a : Addr) (v : Byte), s.cfg.ds = some d →
    (∀ e, d.variant = .ext e → s.pageEn = true → a &&& 0xC000 = e.pageWindowBase →
      ∃ t, exec (.smwr a v) s = .next t ∧ t = (s.setPageRam t.pageRam).setAnswer .silent ∧
        t.pageByte (s.pageBank.toNat * 0x4000 + a.toNat % 0x4000) = v ∧
        ∀ k, k ≠ s.pageBank.toNat * 0x4000 + a.toNat % 0x4000 → t.pageByte k = s.pageByte k) ∧
    ((∀ e, d.variant = .ext e → s.pageEn = true → a &&& 0xC000 ≠ e.pageWindowBase) →
      ∃ t, exec (.smwr a v) s = .next t ∧ t = (s.setSecMem t.secMem).setAnswer .silent ∧
        t.secByte a.toNat = v ∧ ∀ k, k ≠ a.toNat → t.secByte k = s.secByte k)

/-- R148 and R149 (D21, D33) for a port the block does not decode: a read is forwarded and answers the chip models' value,
which is free; a write is forwarded; neither changes any other state. -/
def Obligations.SecondaryIoIsForwarded : Prop :=
  ∀ (s : State) (d : DsParams) (p : Port) (v : Byte), s.cfg.ds = some d →
    (∃ x, exec (.siord p) s =
      .next { s with events := s.events ++ [.chipIoRead p], answer := .secRead x }) ∧
    exec (.siowr p v) s = .next { s with events := s.events ++ [.chipIoWrite p v], answer := .silent }

/-- R166 (D24): `DRVSEL` stores bits 3:0 of its byte and is forwarded; afterwards the drive in effect is that of the
lowest bit set, or none. -/
def Obligations.DriveSelectTakesLowestBit : Prop :=
  ∀ (s : State) (d : DsParams) (high v : Byte), s.cfg.ds = some d →
    ∃ t, exec (.drvsel high v) s = .next t ∧
      t = { s with driveMask := v.extractLsb' 0 4, answer := .silent,
                   events := s.events ++ [.chipIoWrite (mkPort high d.drvselPort) v] } ∧
      (t.driveSelect = none ↔ v.toNat % 16 = 0) ∧
      ∀ i : Fin 4, t.driveSelect = some i ↔ v.getLsbD i.val = true ∧ ∀ j, j < i.val → v.getLsbD j = false

/-- R161: an activation of the disk controller loads `speedKHz * 100`, emits `Dirty` only when the counter was 0, and is
forwarded after that (R149, R204). -/
def Obligations.GideActivationLoadsCounter : Prop :=
  ∀ (s : State) (d : DsParams) (p : Port) (v : Byte), s.cfg.ds = some d → d.gidePresent = true →
    exec (.gideact p v) s =
      .next { s with gideGlow := s.speedKHz.toNat * 100, answer := .silent,
                     events := s.events ++ (if s.gideGlow = 0 then [.dirty .gide] else []) ++ [.chipIoWrite p v] }

/-- R185: a secondary write to a port of `DMA_ACT_PORTS` activates the DMA indicator: it loads `speedKHz * 100` and emits
`Dirty` only when the counter was 0; it changes no other state; a read of such a port is plain. That it is not forwarded is
R65, R149 and R185 followed against the general sentence of R44, the model's reading of the two (log 18). -/
def Obligations.DmaActivationLoadsCounter : Prop :=
  ∀ (s : State) (d : DsParams) (e : ExtParams) (p : Port) (v : Byte), s.cfg.ds = some d → d.variant = .ext e →
    (s.cfg.wf = true → portLow p ∈ e.dmaActPorts →
      decode s.cfg (txPack 0xB p v) = .ok (.dmaact p v) ∧ decode s.cfg (txPack 0xA p v) = .ok (.siord p)) ∧
    exec (.dmaact p v) s =
      .next { s with dmaGlow := s.speedKHz.toNat * 100, answer := .silent,
                     events := s.events ++ (if s.dmaGlow = 0 then [.dirty .dma] else []) }

/-- R181 (D26): both fields of the page register are written from the byte, in the layout of the configuration, and the
write is forwarded. In `BASE` the operation does not exist and is refused by name (R62, R65; log 11). -/
def Obligations.PageWriteSetsBothFields : Prop :=
  ∀ (s : State) (d : DsParams) (high v : Byte), s.cfg.ds = some d →
    (d.variant = .base → exec (.pagewr high v) s = .refused .noPageRegister) ∧
    (∀ e, d.variant = .ext e →
      ∃ t, exec (.pagewr high v) s = .next t ∧
        t = { s with pageEn := t.pageEn, pageBank := t.pageBank, answer := .silent,
                     events := s.events ++ [.chipIoWrite (mkPort high e.pagePort) v] } ∧
        (e.pageLayout = .A → t.pageEn = v.getLsbD 7 ∧ t.pageBank.toNat = v.toNat % 128) ∧
        (e.pageLayout = .B → t.pageEn = v.getLsbD 0 ∧ t.pageBank.toNat = v.toNat / 2))

/-! ## Clock and reset -/

/-- R160, R162 and R204 (D22): a tick advances the prescaler modulo 8 with `Ctc0Pulse` on the wrap, takes one from each
existing counter that is not 0, and emits `Dirty` for each that reaches 0, in this order; nothing else changes. -/
def Obligations.TickAdvancesPrescalerAndCounters : Prop :=
  ∀ (s : State) (d : DsParams), s.cfg.ds = some d →
    exec .tick s =
      .next { s with
        div8 := BitVec.ofNat 3 ((s.div8.toNat + 1) % 8)
        gideGlow := if d.gidePresent then s.gideGlow - 1 else s.gideGlow
        dmaGlow := if d.variant = .base then s.dmaGlow else s.dmaGlow - 1
        answer := .silent
        events := s.events ++ (if s.div8.toNat = 7 then [.ctc0Pulse] else [])
          ++ (if d.gidePresent = true ∧ s.gideGlow = 1 then [.dirty .gide] else [])
          ++ (if d.variant ≠ .base ∧ s.dmaGlow = 1 then [.dirty .dma] else []) }

/-- R165 (D23, D40): a nonzero speed is stored; where counters are rescaled, each becomes the least count of the new
clock that lasts at least as long, so a lit indicator stays lit and a dark one dark; nothing is emitted. `SPEEDCHG 0` is
refused (R67). -/
def Obligations.SpeedChangeKeepsWallClockTime : Prop :=
  ∀ (s : State) (d : DsParams) (k : KHz), s.cfg.ds = some d → s.speedKHz ≠ 0 →
    exec (.speedchg 0) s = .refused .zeroSpeed ∧
    (k ≠ 0 →
      ∃ t, exec (.speedchg k) s = .next t ∧
        t = { s with speedKHz := k, gideGlow := t.gideGlow, dmaGlow := t.dmaGlow, answer := .silent } ∧
        (d.afterglow = .keep → t.gideGlow = s.gideGlow ∧ t.dmaGlow = s.dmaGlow) ∧
        (d.afterglow = .rescale →
          ∀ i, (∀ n, s.glow i * k.toNat ≤ n * s.speedKHz.toNat ↔ t.glow i ≤ n) ∧
            (t.glow i = 0 ↔ s.glow i = 0)))

/-- R230 (D11, D19): a host reset returns every status byte to its `INIT_STATUS`, clears the latch without any action,
and stops the secondary system only where the configuration says so; everything else is kept. -/
def Obligations.HostResetRestoresStatusAndLatch : Prop :=
  ∀ (s : State),
    (s.cfg.ds = none → exec .hreset s =
      .next { s with mods := s.mods.map fun m => { m with status := m.params.initStatus }, answer := .silent }) ∧
    (∀ d, s.cfg.ds = some d → exec .hreset s =
      .next { s with mods := s.mods.map fun m => { m with status := m.params.initStatus }, latch := 0,
                     runLevel := if d.hostResetStops then .down else s.runLevel, answer := .silent })

/-- R230 with R17: after a host reset of a well-formed configuration the bridge is disconnected. -/
def Obligations.HostResetDisconnectsBridge : Prop :=
  ∀ (s : State), s.cfg.admits s.modParams = true →
    ∃ t, exec .hreset s = .next t ∧ t.connected = false ∧ t.latch = (if s.cfg.ds.isSome then 0 else s.latch)

/-- R231 and R31 (D11, D22, D24, D26, D27, D30) with R5 (D39): power-up with a configuration that meets every constraint
gives the construction values; any other configuration is refused. Two of the constraints are the model's reading of R5:
that `DS_PRESENT` means exactly one module of kind `ds`, with none of which, or two, a configuration is refused (log 12),
and that `DS_ROM_ALIGN_MASK` is tested against `DS_ROM_W` in `EXT` too (log 17). State that a configuration does not have
is at its zero, the model's choice (log 12). -/
def Obligations.PowerUpGivesConstructionValues : Prop :=
  ∀ (c : Config) (ms : List ModuleParams),
    (c.admits ms = false → powerUp c ms = .refused .brokenConfiguration) ∧
    (c.admits ms = true → ∃ t, powerUp c ms = .next t ∧
      t.configuration = (c, ms) ∧
      (∀ m ∈ t.mods, m.status = m.params.initStatus ∧ ∀ a, m.store.get a = none) ∧
      t.hostSide.2 = (0, false) ∧ t.connected = false ∧ t.lifecycle = (.down, false, false) ∧
      t.secRegisters = (0, 0, 0, 0, false, 0) ∧ (∀ a, t.secMem.get a = none) ∧ (∀ a, t.pageRam.get a = none) ∧
      ∀ d, c.ds = some d →
        (∀ k, d.fixedSpeed = some k → t.speedKHz = k) ∧
        (d.fixedSpeed = none → d.variant = .base → t.speedKHz = d.speedInit) ∧
        (∀ e, d.fixedSpeed = none → d.variant = .ext e → t.speedKHz = e.speedA))

/-! ## Invariants and whole-machine rules -/

/-- The invariant holds at reset (the configuration of reset is the model's choice, log 2). -/
def Obligations.ResetMeetsInvariant : Prop := State.reset.Inv

/-- The invariant holds at power-up with every configuration that meets R5, as the model reads it (log 12, log 17). -/
def Obligations.PowerUpMeetsInvariant : Prop :=
  ∀ (c : Config) (ms : List ModuleParams), c.admits ms = true → (State.construct c ms).Inv

/-- Every step keeps the invariant: memories canonical and in range, the lifecycle pairs of R128, nonzero speed, counters
within R28, non-switchable status bytes, absent state untouched. -/
def Obligations.EveryStepKeepsInvariant : Prop :=
  ∀ (s t : State), s.Inv → step s = .next t → t.Inv

/-- The configuration, with each module's constants, never changes (R10, R15), and a step that takes a word takes exactly
that one. -/
def Obligations.StepKeepsConfigurationAndOrder : Prop :=
  ∀ (s t : State), step s = .next t →
    t.configuration = s.configuration ∧ t.inputs = s.inputs.tail ∧
      t.arrivals = s.arrivals + (if s.inputs = [] then 0 else 1)

/-- R208: no transaction of the secondary CPU, of run control or of the clock changes any host-side state, and the
clock and the secondary CPU never change the lifecycle. -/
def Obligations.SecondarySideNeverWritesHostSide : Prop :=
  ∀ (i : Instr) (s t : State), i.agent ≠ .host → exec i s = .next t →
    t.hostSide = s.hostSide ∧ (i.agent ≠ .runControl → t.lifecycle = s.lifecycle)

/-- R208: no transaction of the host changes the secondary memory below the bridge window, the paged RAM, the page
register, the drive mask or the prescaler; and of the operations a configuration has, none of the host's but `DSCTL`, whose
clock-rate bit sets the rate and rescales the counters (R186), changes an afterglow counter or the speed. -/
def Obligations.HostNeverWritesSecondaryPrivateState : Prop :=
  ∀ (i : Instr) (s t : State), i.agent = .host → exec i s = .next t →
    (∀ a, a < 0xFC00 → t.secByte a = s.secByte a) ∧ t.pageRam = s.pageRam ∧ t.pageEn = s.pageEn ∧
      t.pageBank = s.pageBank ∧ t.driveMask = s.driveMask ∧ t.div8 = s.div8 ∧
      (s.cfg.wf = true → i.wellFormed s.cfg = true → (∀ high v, i ≠ .dsctl high v) →
        t.gideGlow = s.gideGlow ∧ t.dmaGlow = s.dmaGlow ∧ t.speedKHz = s.speedKHz)

/-- R208, R51 (d), R146: what a transaction from the other side than the host does, and what it answers, does not depend
on any host-side state, in particular not on the connection; the value of a secondary I/O read comes from outside and is
left out (log 7). -/
def Obligations.SecondarySideIgnoresHostSide : Prop :=
  ∀ (i : Instr) (s t : State) (mods : List Module) (latch : BitVec 4) (clk : Bool), i.agent ≠ .host →
    (∀ p, i ≠ .siord p) → exec i s = .next t →
      exec i { s with mods := mods, latch := latch, clkSel := clk } =
        .next { t with mods := mods, latch := latch, clkSel := clk }

/-- R128: of the operations a configuration has, only a control write, its four actions, a host reset and the three
run-control events change the lifecycle state, and where a worker starts it is by an enable, where it ends an exit. -/
def Obligations.LifecycleChangesOnlyByItsOperations : Prop :=
  ∀ (i : Instr) (s t : State), s.cfg.wf = true → i.wellFormed s.cfg = true → exec i s = .next t →
    t.lifecycle ≠ s.lifecycle →
      (i = .hreset ∨ i = .encpu ∨ i = .stopcpu ∨ i = .rstcpu ∨ i = .loopenter ∨ i = .wexit ∨ i = .sfault ∨
        ∃ high v, i = .dsctl high v) ∧
      (s.workerLive = true → t.workerLive = false → i = .wexit) ∧
      (s.workerLive = false → t.workerLive = true → i = .encpu ∨ ∃ high v, i = .dsctl high v ∧ v.getLsbD 0 = true)

/-- R203 with R148 and R149: events are only added, and each comes from its own operations. `SecReset` comes from
`LOOPENTER`, `ErrorReport` from `SFAULT` and always of the class `SecondaryFault`, `Ctc0Pulse` from `TICK`, `Dirty` from `TICK`
and the activation of its indicator, `ChipIoRead` from `SIORD`. Of the operations a configuration has, `SecNmi` comes from
`NMICPU` and from a `DSCTL` that raises bit 3, only while `Running`, `SecSpeed` from a `DSCTL` without a fixed speed, and
`ChipIoWrite` from the forwarded secondary writes, of which `DMAACT` is none (R65, R149, R185; log 18). -/
def Obligations.EventsComeFromTheirOperations : Prop :=
  ∀ (i : Instr) (s t : State), exec i s = .next t →
    ∃ es, t.events = s.events ++ es ∧
      (∀ a, Event.secReset a ∈ es → i = .loopenter) ∧
      (∀ c, Event.errorReport c ∈ es → i = .sfault ∧ c = .secondaryFault) ∧
      (Event.ctc0Pulse ∈ es → i = .tick) ∧
      (Event.secNmi ∈ es → i.agent = .host ∧ s.runLevel = .running) ∧
      (Event.dirty .gide ∈ es → i = .tick ∨ ∃ p v, i = .gideact p v) ∧
      (Event.dirty .dma ∈ es → i = .tick ∨ ∃ p v, i = .dmaact p v) ∧
      (∀ p, Event.chipIoRead p ∈ es → i = .siord p) ∧
      (s.cfg.wf = true → i.wellFormed s.cfg = true →
        (Event.secNmi ∈ es → i = .nmicpu ∨
          ∃ high v, i = .dsctl high v ∧ v.getLsbD 3 = true ∧ s.latch.getLsbD 3 = false) ∧
        (∀ k, Event.secSpeed k ∈ es →
          (∃ high v, i = .dsctl high v) ∧ ∃ d e, s.cfg.ds = some d ∧ d.variant = .ext e ∧ d.fixedSpeed = none) ∧
        (∀ p v, Event.chipIoWrite p v ∈ es → i = .siowr p v ∨ i = .gideact p v ∨
          (∃ high, i = .drvsel high v) ∨ ∃ high, i = .pagewr high v))

/-- R47, R80, R84, R140, R146: reads of the host bus and of the secondary memory have no side effect in the block: they
change the answer alone, and where no peripheral module is installed (its answers are free values, log 6) the same read
answers the same at any later arrival that finds the state as it is. -/
def Obligations.ReadsHaveNoSideEffect : Prop :=
  ∀ (s t : State) (i : Instr),
    ((∃ a, i = .mrd a) ∨ (∃ x, i = .typerd x) ∨ (∃ x y, i = .brrd x y) ∨ (∃ p, i = .iord p) ∨ (∃ a, i = .smrd a)) →
      exec i s = .next t → t = s.setAnswer t.answer ∧
        ((∀ m ∈ s.mods, m.params.kind ≠ .peripheral) →
          ∀ n, exec i { t with arrivals := n } = .next { t with arrivals := n })

/-! ## Runs of ticks -/

/-- R160: whatever else it does, a run of `n` ticks from phase `p` emits `(p + n) div 8` pulses and ends at phase
`(p + n) mod 8`. -/
def Obligations.PrescalerPulsesEveryEighthTick : Prop :=
  ∀ (n : Nat) (s : State) (d : DsParams), s.cfg.ds = some d → s.inputs = List.replicate n (txPack 0x5 0 0) →
    ∃ t, Host.Core.run core n s = .next t ∧
      t.div8.toNat = (s.div8.toNat + n) % 8 ∧
      t.events.count .ctc0Pulse = s.events.count .ctc0Pulse + (s.div8.toNat + n) / 8

/-- R161 and R162, property S6: an activation of a dark disk-controller indicator at speed `S` followed by `n` ticks leaves
`S * 100 - n` in the counter, so the indicator is on for exactly `S * 100` ticks, with one `Dirty` at activation and one
more exactly when the count has run out. -/
def Obligations.AfterglowLastsExactlySpeedTimesHundred : Prop :=
  ∀ (n : Nat) (s : State) (d : DsParams) (w : TxWord) (p : Port) (v : Byte), s.cfg.ds = some d →
    d.gidePresent = true → decode s.cfg w = .ok (.gideact p v) → s.speedKHz ≠ 0 → s.gideGlow = 0 →
    s.inputs = w :: List.replicate n (txPack 0x5 0 0) →
      ∃ t, Host.Core.run core (n + 1) s = .next t ∧
        t.gideGlow = s.speedKHz.toNat * 100 - n ∧
        (t.indicatorOn .gide = true ↔ n < s.speedKHz.toNat * 100) ∧
        t.events.count (.dirty .gide) =
          s.events.count (.dirty .gide) + (if n < s.speedKHz.toNat * 100 then 1 else 2)
end

