-- ==== Sys2Proof/Laws/Fields.lean ====
section
/-! SUPPORT. The fields of packed words and of ports, the bridge ports, and the bridge address. -/

namespace Sys2Proof

@[simp] theorem txKind_txPack (k : BitVec 4) (a : BitVec 16) (d : Byte) : txKind (txPack k a d) = k := by
  apply BitVec.eq_of_getLsbD_eq
  intro i hi
  simp only [txKind, txPack, BitVec.getLsbD_extractLsb', BitVec.getLsbD_append, hi, decide_true, Bool.true_and]
  rw [if_neg (by omega), if_neg (by omega)]
  congr 1
  omega

@[simp] theorem txAddr_txPack (k : BitVec 4) (a : BitVec 16) (d : Byte) : txAddr (txPack k a d) = a := by
  apply BitVec.eq_of_getLsbD_eq
  intro i hi
  simp only [txAddr, txPack, BitVec.getLsbD_extractLsb', BitVec.getLsbD_append, hi, decide_true, Bool.true_and]
  rw [if_neg (by omega), if_pos (by omega)]
  congr 1
  omega

@[simp] theorem txData_txPack (k : BitVec 4) (a : BitVec 16) (d : Byte) : txData (txPack k a d) = d := by
  apply BitVec.eq_of_getLsbD_eq
  intro i hi
  simp only [txData, txPack, BitVec.getLsbD_extractLsb', BitVec.getLsbD_append, hi, decide_true, Bool.true_and]
  rw [if_pos (by omega)]
  congr 1
  omega

@[simp] theorem portLow_mkPort (h l : Byte) : portLow (mkPort h l) = l := by
  apply BitVec.eq_of_getLsbD_eq
  intro i hi
  simp only [portLow, mkPort, BitVec.getLsbD_extractLsb', BitVec.getLsbD_append, hi, decide_true, Bool.true_and]
  rw [if_pos (by omega)]
  congr 1
  omega

@[simp] theorem portHigh_mkPort (h l : Byte) : portHigh (mkPort h l) = h := by
  apply BitVec.eq_of_getLsbD_eq
  intro i hi
  simp only [portHigh, mkPort, BitVec.getLsbD_extractLsb', BitVec.getLsbD_append, hi, decide_true, Bool.true_and]
  rw [if_neg (by omega)]
  congr 1
  omega

@[simp] theorem mkPort_portHigh_portLow (p : Port) : mkPort (portHigh p) (portLow p) = p := by
  apply BitVec.eq_of_getLsbD_eq
  intro i hi
  simp only [portHigh, portLow, mkPort, BitVec.getLsbD_extractLsb', BitVec.getLsbD_append]
  by_cases h : i < 8
  · simp [h]
  · have : i - 8 < 8 := by omega
    have : 8 + (i - 8) = i := by omega
    simp [*]

/-- The port numbers `0xF0 + page` are the bridge's. -/
@[simp] theorem isBridgePort_bridgePort (page : BitVec 2) : isBridgePort (bridgePort page) = true := by
  revert page; decide

@[simp] theorem extractLsb'_bridgePort (page : BitVec 2) : (bridgePort page).extractLsb' 0 2 = page := by
  revert page; decide

/-- A bridge port number is `0xF0` plus its two low bits. -/
theorem bridgePort_extractLsb' {l : Byte} (h : isBridgePort l = true) : bridgePort (l.extractLsb' 0 2) = l := by
  revert l; decide

/-- A status or control port number of a well-formed configuration is no bridge port number. -/
theorem bridgePort_ne {page : BitVec 2} {l : Byte} (h : isBridgePort l = false) : bridgePort page ≠ l := by
  intro he
  rw [← he] at h
  simp at h

/-- R140: the two forms of the bridge address agree on the four bridge ports. -/
theorem bridgeAddr_mkPort (page : BitVec 2) (high : Byte) :
    bridgeAddr (mkPort high (bridgePort page)) = 0xFC00 + 0x100 * page.toNat + high.toNat := by
  have hp : page.toNat < 4 := page.isLt
  have hh : high.toNat < 256 := high.isLt
  simp only [bridgeAddr, portLow_mkPort, portHigh_mkPort, bridgeMemBase]
  have hk : 0xFC00 ||| (bridgePort page).toNat <<< 8 = 2 ^ 8 * (0xFC + page.toNat) := by
    clear hp; revert page; decide
  rw [hk, ← Nat.two_pow_add_eq_or_of_lt (by omega), show (0xFFFF : Nat) = 2 ^ 16 - 1 from rfl,
    Nat.and_two_pow_sub_one_eq_mod]
  omega

theorem bridgeAddr_lt (p : Port) : bridgeAddr p < 0x10000 := by
  unfold bridgeAddr
  exact lt_of_le_of_lt Nat.and_le_right (by decide)

theorem pageIndex_lt (bank : BitVec 7) (a : Addr) : pageIndex bank a < 0x200000 := by
  have h1 : bank.toNat < 128 := bank.isLt
  have h2 : (a &&& 0x3FFF).toNat ≤ 0x3FFF := by
    rw [BitVec.toNat_and]
    exact Nat.and_le_right
  unfold pageIndex
  omega

/-- R182: `addr & 0x3FFF` is the offset in the 16K bank. -/
theorem pageIndex_eq (bank : BitVec 7) (a : Addr) : pageIndex bank a = bank.toNat * 0x4000 + a.toNat % 0x4000 := by
  unfold pageIndex
  rw [BitVec.toNat_and, show (0x3FFF : BitVec 16).toNat = 2 ^ 14 - 1 from rfl, Nat.and_two_pow_sub_one_eq_mod]

end Sys2Proof
end

