-- ==== Sys2Proof/Laws/Memory.lean ====
section
/-! SUPPORT. What reading gives after a write or a clear, and that every memory operation keeps the canonical form. -/

namespace Sys2Proof.Machine

theorem lookupCell_insertCell (cells : List Host.Cell) (a b : Nat) (v : Byte) :
    lookupCell (insertCell cells a v) b = if a = b then some v else lookupCell cells b := by
  induction cells with
  | nil => rfl
  | cons c rest ih =>
    unfold insertCell
    split
    · rfl
    · split
      · subst a
        by_cases h : c.1 = b <;> simp [lookupCell, h]
      · rename_i hlt hne
        simp only [lookupCell, ih]
        by_cases h : c.1 = b
        · subst h; simp [hne]
        · simp [h]

theorem lookupCell_filter_ne (cells : List Host.Cell) (p : Host.Cell → Bool) (b : Nat)
    (h : ∀ c, c.1 = b → p c = true) : lookupCell (cells.filter p) b = lookupCell cells b := by
  induction cells with
  | nil => rfl
  | cons c rest ih =>
    by_cases hb : c.1 = b
    · simp [lookupCell, h c hb, hb]
    · by_cases hp : p c = true <;> simp [hp, lookupCell, hb, ih]

theorem lookupCell_filter_none (cells : List Host.Cell) (p : Host.Cell → Bool) (b : Nat)
    (h : ∀ c, c.1 = b → p c = false) : lookupCell (cells.filter p) b = none := by
  induction cells with
  | nil => rfl
  | cons c rest ih =>
    by_cases hp : p c = true
    · have hb : c.1 ≠ b := fun hb => by simp [h c hb] at hp
      simp [hp, lookupCell, hb, ih]
    · simp [hp, ih]

/-- Read after write: the byte written at its address, every other byte as before. -/
theorem Memory.get_set (m : Memory) (a b : Nat) (v : Byte) :
    (m.set a v).get b = if a = b then some v else m.get b := by
  unfold Memory.set Memory.get Memory.unlisted
  by_cases hu : (if a < m.clearedBelow then some (0 : Byte) else none) = some v
  · simp only [hu, if_true, eraseCell]
    by_cases hab : a = b
    · subst hab
      rw [lookupCell_filter_none _ _ _ (by intro c hc; simp [hc])]
      simpa using hu
    · rw [lookupCell_filter_ne _ _ _ (by intro c hc; simp [hc, Ne.symm hab])]
      simp [hab]
  · simp only [hu, if_false, lookupCell_insertCell]
    by_cases hab : a = b <;> simp [hab]

theorem Memory.get_set_same (m : Memory) (a : Nat) (v : Byte) : (m.set a v).get a = some v := by
  simp [Memory.get_set]

theorem Memory.get_set_other (m : Memory) {a b : Nat} (v : Byte) (h : a ≠ b) : (m.set a v).get b = m.get b := by
  simp [Memory.get_set, h]

/-- Read after a clear: zero below the bound, every other byte as before. -/
theorem Memory.get_clearBelow (m : Memory) (n a : Nat) :
    (m.clearBelow n).get a = if a < n then some 0 else m.get a := by
  unfold Memory.clearBelow Memory.get Memory.unlisted
  by_cases h : a < n
  · rw [lookupCell_filter_none _ _ _ (by intro c hc; simp [hc, h])]
    simp [h]
  · rw [lookupCell_filter_ne _ _ _ (by intro c hc; simp [hc, Nat.le_of_not_lt h])]
    simp [h]

@[simp] theorem Memory.unwritten_get (a : Nat) : Memory.unwritten.get a = none := rfl

@[simp] theorem Memory.set_clearedBelow (m : Memory) (a : Nat) (v : Byte) :
    (m.set a v).clearedBelow = m.clearedBelow := rfl

/-! ## The canonical form -/

theorem cellsRising_iff (cells : List Host.Cell) :
    cellsRising cells = true ↔ cells.Pairwise fun c d => c.1 < d.1 := by
  induction cells with
  | nil => simp [cellsRising]
  | cons c rest ih =>
    cases rest with
    | nil => simp [cellsRising]
    | cons d rest =>
      rw [cellsRising, Bool.and_eq_true, ih, List.pairwise_cons (a := c)]
      constructor
      · rintro ⟨hcd, hp⟩
        refine ⟨?_, hp⟩
        intro x hx
        have hcd : c.1 < d.1 := by simpa using hcd
        rcases List.mem_cons.1 hx with rfl | hx
        · exact hcd
        · exact lt_trans hcd ((List.pairwise_cons.1 hp).1 x hx)
      · rintro ⟨h, hp⟩
        exact ⟨by simpa using h d (by simp), hp⟩

theorem cellsRising_filter (cells : List Host.Cell) (p : Host.Cell → Bool) (h : cellsRising cells = true) :
    cellsRising (cells.filter p) = true := by
  rw [cellsRising_iff] at *
  exact h.filter p

theorem mem_insertCell {cells : List Host.Cell} {a : Nat} {v : Byte} {c : Host.Cell}
    (h : c ∈ insertCell cells a v) : c = (a, v) ∨ c ∈ cells := by
  induction cells with
  | nil => simpa [insertCell] using h
  | cons d rest ih =>
    unfold insertCell at h
    split at h
    · simpa using h
    · split at h
      · rcases List.mem_cons.1 h with h | h
        · exact .inl h
        · exact .inr (List.mem_cons_of_mem _ h)
      · rcases List.mem_cons.1 h with h | h
        · exact .inr (by simp [h])
        · rcases ih h with h | h
          · exact .inl h
          · exact .inr (List.mem_cons_of_mem _ h)

theorem cellsRising_insertCell (cells : List Host.Cell) (a : Nat) (v : Byte) (h : cellsRising cells = true) :
    cellsRising (insertCell cells a v) = true := by
  rw [cellsRising_iff] at *
  induction cells with
  | nil => simp [insertCell]
  | cons d rest ih =>
    obtain ⟨hd, hp⟩ := List.pairwise_cons.1 h
    unfold insertCell
    split
    · rename_i hlt
      refine List.pairwise_cons.2 ⟨?_, h⟩
      intro x hx
      rcases List.mem_cons.1 hx with rfl | hx
      · exact hlt
      · exact lt_trans hlt (hd x hx)
    · split
      · rename_i _ heq
        refine List.pairwise_cons.2 ⟨?_, hp⟩
        intro x hx
        simpa [heq] using hd x hx
      · rename_i hlt hne
        refine List.pairwise_cons.2 ⟨?_, ih hp⟩
        intro x hx
        rcases mem_insertCell hx with rfl | hx
        · simpa using lt_of_le_of_ne (Nat.le_of_not_lt hlt) (Ne.symm hne)
        · exact hd x hx

/-- A write keeps the canonical form. -/
theorem Memory.wf_set (m : Memory) (a : Nat) (v : Byte) (h : m.wf = true) : (m.set a v).wf = true := by
  simp only [Memory.wf, Bool.and_eq_true, List.all_eq_true] at *
  obtain ⟨hr, hl⟩ := h
  unfold Memory.set
  by_cases hu : m.unlisted a = some v
  · simp only [hu, if_true]
    exact ⟨cellsRising_filter _ _ hr, fun c hc => hl c (List.mem_filter.1 hc).1⟩
  · simp only [hu, if_false]
    refine ⟨cellsRising_insertCell _ _ _ hr, fun c hc => ?_⟩
    rcases mem_insertCell hc with rfl | hc
    · simpa [Memory.unlisted] using hu
    · exact hl c hc

/-- A clear keeps the canonical form. -/
theorem Memory.wf_clearBelow (m : Memory) (n : Nat) (h : m.wf = true) : (m.clearBelow n).wf = true := by
  simp only [Memory.wf, Bool.and_eq_true, List.all_eq_true] at *
  obtain ⟨hr, hl⟩ := h
  refine ⟨cellsRising_filter _ _ hr, fun c hc => ?_⟩
  obtain ⟨hc, hn⟩ := List.mem_filter.1 hc
  have hn : ¬c.1 < n := by simpa using hn
  have := hl c hc
  simpa [Memory.unlisted, Memory.clearBelow, hn] using this

theorem cellsBelow_set (m : Memory) (a n : Nat) (v : Byte) (ha : a < n) (h : cellsBelow n m.cells = true) :
    cellsBelow n (m.set a v).cells = true := by
  simp only [cellsBelow, List.all_eq_true, decide_eq_true_eq] at *
  unfold Memory.set
  split
  · exact fun c hc => h c (List.mem_filter.1 hc).1
  · intro c hc
    rcases mem_insertCell hc with rfl | hc
    · exact ha
    · exact h c hc

theorem cellsBelow_clearBelow (m : Memory) (k n : Nat) (h : cellsBelow n m.cells = true) :
    cellsBelow n (m.clearBelow k).cells = true := by
  simp only [cellsBelow, List.all_eq_true, decide_eq_true_eq] at *
  exact fun c hc => h c (List.mem_filter.1 hc).1

theorem lookupCell_none_of_lt {cells : List Host.Cell} {a : Nat} (h : ∀ c ∈ cells, a < c.1) :
    lookupCell cells a = none := by
  induction cells with
  | nil => rfl
  | cons c rest ih =>
    have hc : c.1 ≠ a := (h c (by simp)).ne'
    simp [lookupCell, hc, ih fun d hd => h d (List.mem_cons_of_mem _ hd)]

/-- Equal contents are equal data: two canonical cell lists that read alike under one bound are the same list. -/
theorem rising_ext {xs ys : List Host.Cell} (hx : xs.Pairwise fun c d => c.1 < d.1)
    (hy : ys.Pairwise fun c d => c.1 < d.1) (h : ∀ a, lookupCell xs a = lookupCell ys a) : xs = ys := by
  induction xs generalizing ys with
  | nil =>
    cases ys with
    | nil => rfl
    | cons d ys => simpa [lookupCell] using h d.1
  | cons c xs ih =>
    obtain ⟨hc, hx⟩ := List.pairwise_cons.1 hx
    cases ys with
    | nil => simpa [lookupCell] using h c.1
    | cons d ys =>
      obtain ⟨hd, hy⟩ := List.pairwise_cons.1 hy
      have hcd : c.1 = d.1 := by
        rcases Nat.lt_trichotomy c.1 d.1 with hlt | heq | hgt
        · have := h c.1
          rw [lookupCell_none_of_lt (cells := d :: ys)] at this
          · simp [lookupCell] at this
          · intro e he
            rcases List.mem_cons.1 he with rfl | he
            · exact hlt
            · exact lt_trans hlt (hd e he)
        · exact heq
        · have := h d.1
          rw [lookupCell_none_of_lt (cells := c :: xs)] at this
          · simp [lookupCell] at this
          · intro e he
            rcases List.mem_cons.1 he with rfl | he
            · exact hgt
            · exact lt_trans hgt (hc e he)
      have hv : c.2 = d.2 := by simpa [lookupCell, hcd] using h c.1
      have hxy : xs = ys := by
        refine ih hx hy fun a => ?_
        by_cases ha : c.1 = a
        · rw [lookupCell_none_of_lt fun e he => ha ▸ hc e he,
            lookupCell_none_of_lt fun e he => (ha ▸ hcd ▸ hd e he : a < e.1)]
        · simpa [lookupCell, ha, ← hcd] using h a
      rw [hxy, Prod.ext hcd hv]

end Sys2Proof.Machine
end

