-- ==== Sys2Proof/Laws/State.lean ====
section
/-! SUPPORT. One lemma per field per update of the state, so that no proof unfolds a record update. -/

namespace Sys2Proof.Machine.State

variable (s : State)

@[simp] theorem setMods_cfg (x : List Module) : (s.setMods x).cfg = s.cfg := rfl
@[simp] theorem setMods_mods (x : List Module) : (s.setMods x).mods = x := rfl
@[simp] theorem setMods_latch (x : List Module) : (s.setMods x).latch = s.latch := rfl
@[simp] theorem setMods_clkSel (x : List Module) : (s.setMods x).clkSel = s.clkSel := rfl
@[simp] theorem setMods_secMem (x : List Module) : (s.setMods x).secMem = s.secMem := rfl
@[simp] theorem setMods_runLevel (x : List Module) : (s.setMods x).runLevel = s.runLevel := rfl
@[simp] theorem setMods_workerLive (x : List Module) : (s.setMods x).workerLive = s.workerLive := rfl
@[simp] theorem setMods_coldPending (x : List Module) : (s.setMods x).coldPending = s.coldPending := rfl
@[simp] theorem setMods_driveMask (x : List Module) : (s.setMods x).driveMask = s.driveMask := rfl
@[simp] theorem setMods_div8 (x : List Module) : (s.setMods x).div8 = s.div8 := rfl
@[simp] theorem setMods_speedKHz (x : List Module) : (s.setMods x).speedKHz = s.speedKHz := rfl
@[simp] theorem setMods_gideGlow (x : List Module) : (s.setMods x).gideGlow = s.gideGlow := rfl
@[simp] theorem setMods_dmaGlow (x : List Module) : (s.setMods x).dmaGlow = s.dmaGlow := rfl
@[simp] theorem setMods_pageEn (x : List Module) : (s.setMods x).pageEn = s.pageEn := rfl
@[simp] theorem setMods_pageBank (x : List Module) : (s.setMods x).pageBank = s.pageBank := rfl
@[simp] theorem setMods_pageRam (x : List Module) : (s.setMods x).pageRam = s.pageRam := rfl
@[simp] theorem setMods_inputs (x : List Module) : (s.setMods x).inputs = s.inputs := rfl
@[simp] theorem setMods_arrivals (x : List Module) : (s.setMods x).arrivals = s.arrivals := rfl
@[simp] theorem setMods_answer (x : List Module) : (s.setMods x).answer = s.answer := rfl
@[simp] theorem setMods_events (x : List Module) : (s.setMods x).events = s.events := rfl

@[simp] theorem setLatch_cfg (x : BitVec 4) : (s.setLatch x).cfg = s.cfg := rfl
@[simp] theorem setLatch_mods (x : BitVec 4) : (s.setLatch x).mods = s.mods := rfl
@[simp] theorem setLatch_latch (x : BitVec 4) : (s.setLatch x).latch = x := rfl
@[simp] theorem setLatch_clkSel (x : BitVec 4) : (s.setLatch x).clkSel = s.clkSel := rfl
@[simp] theorem setLatch_secMem (x : BitVec 4) : (s.setLatch x).secMem = s.secMem := rfl
@[simp] theorem setLatch_runLevel (x : BitVec 4) : (s.setLatch x).runLevel = s.runLevel := rfl
@[simp] theorem setLatch_workerLive (x : BitVec 4) : (s.setLatch x).workerLive = s.workerLive := rfl
@[simp] theorem setLatch_coldPending (x : BitVec 4) : (s.setLatch x).coldPending = s.coldPending := rfl
@[simp] theorem setLatch_driveMask (x : BitVec 4) : (s.setLatch x).driveMask = s.driveMask := rfl
@[simp] theorem setLatch_div8 (x : BitVec 4) : (s.setLatch x).div8 = s.div8 := rfl
@[simp] theorem setLatch_speedKHz (x : BitVec 4) : (s.setLatch x).speedKHz = s.speedKHz := rfl
@[simp] theorem setLatch_gideGlow (x : BitVec 4) : (s.setLatch x).gideGlow = s.gideGlow := rfl
@[simp] theorem setLatch_dmaGlow (x : BitVec 4) : (s.setLatch x).dmaGlow = s.dmaGlow := rfl
@[simp] theorem setLatch_pageEn (x : BitVec 4) : (s.setLatch x).pageEn = s.pageEn := rfl
@[simp] theorem setLatch_pageBank (x : BitVec 4) : (s.setLatch x).pageBank = s.pageBank := rfl
@[simp] theorem setLatch_pageRam (x : BitVec 4) : (s.setLatch x).pageRam = s.pageRam := rfl
@[simp] theorem setLatch_inputs (x : BitVec 4) : (s.setLatch x).inputs = s.inputs := rfl
@[simp] theorem setLatch_arrivals (x : BitVec 4) : (s.setLatch x).arrivals = s.arrivals := rfl
@[simp] theorem setLatch_answer (x : BitVec 4) : (s.setLatch x).answer = s.answer := rfl
@[simp] theorem setLatch_events (x : BitVec 4) : (s.setLatch x).events = s.events := rfl

@[simp] theorem setClkSel_cfg (x : Bool) : (s.setClkSel x).cfg = s.cfg := rfl
@[simp] theorem setClkSel_mods (x : Bool) : (s.setClkSel x).mods = s.mods := rfl
@[simp] theorem setClkSel_latch (x : Bool) : (s.setClkSel x).latch = s.latch := rfl
@[simp] theorem setClkSel_clkSel (x : Bool) : (s.setClkSel x).clkSel = x := rfl
@[simp] theorem setClkSel_secMem (x : Bool) : (s.setClkSel x).secMem = s.secMem := rfl
@[simp] theorem setClkSel_runLevel (x : Bool) : (s.setClkSel x).runLevel = s.runLevel := rfl
@[simp] theorem setClkSel_workerLive (x : Bool) : (s.setClkSel x).workerLive = s.workerLive := rfl
@[simp] theorem setClkSel_coldPending (x : Bool) : (s.setClkSel x).coldPending = s.coldPending := rfl
@[simp] theorem setClkSel_driveMask (x : Bool) : (s.setClkSel x).driveMask = s.driveMask := rfl
@[simp] theorem setClkSel_div8 (x : Bool) : (s.setClkSel x).div8 = s.div8 := rfl
@[simp] theorem setClkSel_speedKHz (x : Bool) : (s.setClkSel x).speedKHz = s.speedKHz := rfl
@[simp] theorem setClkSel_gideGlow (x : Bool) : (s.setClkSel x).gideGlow = s.gideGlow := rfl
@[simp] theorem setClkSel_dmaGlow (x : Bool) : (s.setClkSel x).dmaGlow = s.dmaGlow := rfl
@[simp] theorem setClkSel_pageEn (x : Bool) : (s.setClkSel x).pageEn = s.pageEn := rfl
@[simp] theorem setClkSel_pageBank (x : Bool) : (s.setClkSel x).pageBank = s.pageBank := rfl
@[simp] theorem setClkSel_pageRam (x : Bool) : (s.setClkSel x).pageRam = s.pageRam := rfl
@[simp] theorem setClkSel_inputs (x : Bool) : (s.setClkSel x).inputs = s.inputs := rfl
@[simp] theorem setClkSel_arrivals (x : Bool) : (s.setClkSel x).arrivals = s.arrivals := rfl
@[simp] theorem setClkSel_answer (x : Bool) : (s.setClkSel x).answer = s.answer := rfl
@[simp] theorem setClkSel_events (x : Bool) : (s.setClkSel x).events = s.events := rfl

@[simp] theorem setSecMem_cfg (x : Memory) : (s.setSecMem x).cfg = s.cfg := rfl
@[simp] theorem setSecMem_mods (x : Memory) : (s.setSecMem x).mods = s.mods := rfl
@[simp] theorem setSecMem_latch (x : Memory) : (s.setSecMem x).latch = s.latch := rfl
@[simp] theorem setSecMem_clkSel (x : Memory) : (s.setSecMem x).clkSel = s.clkSel := rfl
@[simp] theorem setSecMem_secMem (x : Memory) : (s.setSecMem x).secMem = x := rfl
@[simp] theorem setSecMem_runLevel (x : Memory) : (s.setSecMem x).runLevel = s.runLevel := rfl
@[simp] theorem setSecMem_workerLive (x : Memory) : (s.setSecMem x).workerLive = s.workerLive := rfl
@[simp] theorem setSecMem_coldPending (x : Memory) : (s.setSecMem x).coldPending = s.coldPending := rfl
@[simp] theorem setSecMem_driveMask (x : Memory) : (s.setSecMem x).driveMask = s.driveMask := rfl
@[simp] theorem setSecMem_div8 (x : Memory) : (s.setSecMem x).div8 = s.div8 := rfl
@[simp] theorem setSecMem_speedKHz (x : Memory) : (s.setSecMem x).speedKHz = s.speedKHz := rfl
@[simp] theorem setSecMem_gideGlow (x : Memory) : (s.setSecMem x).gideGlow = s.gideGlow := rfl
@[simp] theorem setSecMem_dmaGlow (x : Memory) : (s.setSecMem x).dmaGlow = s.dmaGlow := rfl
@[simp] theorem setSecMem_pageEn (x : Memory) : (s.setSecMem x).pageEn = s.pageEn := rfl
@[simp] theorem setSecMem_pageBank (x : Memory) : (s.setSecMem x).pageBank = s.pageBank := rfl
@[simp] theorem setSecMem_pageRam (x : Memory) : (s.setSecMem x).pageRam = s.pageRam := rfl
@[simp] theorem setSecMem_inputs (x : Memory) : (s.setSecMem x).inputs = s.inputs := rfl
@[simp] theorem setSecMem_arrivals (x : Memory) : (s.setSecMem x).arrivals = s.arrivals := rfl
@[simp] theorem setSecMem_answer (x : Memory) : (s.setSecMem x).answer = s.answer := rfl
@[simp] theorem setSecMem_events (x : Memory) : (s.setSecMem x).events = s.events := rfl

@[simp] theorem setRunLevel_cfg (x : RunLevel) : (s.setRunLevel x).cfg = s.cfg := rfl
@[simp] theorem setRunLevel_mods (x : RunLevel) : (s.setRunLevel x).mods = s.mods := rfl
@[simp] theorem setRunLevel_latch (x : RunLevel) : (s.setRunLevel x).latch = s.latch := rfl
@[simp] theorem setRunLevel_clkSel (x : RunLevel) : (s.setRunLevel x).clkSel = s.clkSel := rfl
@[simp] theorem setRunLevel_secMem (x : RunLevel) : (s.setRunLevel x).secMem = s.secMem := rfl
@[simp] theorem setRunLevel_runLevel (x : RunLevel) : (s.setRunLevel x).runLevel = x := rfl
@[simp] theorem setRunLevel_workerLive (x : RunLevel) : (s.setRunLevel x).workerLive = s.workerLive := rfl
@[simp] theorem setRunLevel_coldPending (x : RunLevel) : (s.setRunLevel x).coldPending = s.coldPending := rfl
@[simp] theorem setRunLevel_driveMask (x : RunLevel) : (s.setRunLevel x).driveMask = s.driveMask := rfl
@[simp] theorem setRunLevel_div8 (x : RunLevel) : (s.setRunLevel x).div8 = s.div8 := rfl
@[simp] theorem setRunLevel_speedKHz (x : RunLevel) : (s.setRunLevel x).speedKHz = s.speedKHz := rfl
@[simp] theorem setRunLevel_gideGlow (x : RunLevel) : (s.setRunLevel x).gideGlow = s.gideGlow := rfl
@[simp] theorem setRunLevel_dmaGlow (x : RunLevel) : (s.setRunLevel x).dmaGlow = s.dmaGlow := rfl
@[simp] theorem setRunLevel_pageEn (x : RunLevel) : (s.setRunLevel x).pageEn = s.pageEn := rfl
@[simp] theorem setRunLevel_pageBank (x : RunLevel) : (s.setRunLevel x).pageBank = s.pageBank := rfl
@[simp] theorem setRunLevel_pageRam (x : RunLevel) : (s.setRunLevel x).pageRam = s.pageRam := rfl
@[simp] theorem setRunLevel_inputs (x : RunLevel) : (s.setRunLevel x).inputs = s.inputs := rfl
@[simp] theorem setRunLevel_arrivals (x : RunLevel) : (s.setRunLevel x).arrivals = s.arrivals := rfl
@[simp] theorem setRunLevel_answer (x : RunLevel) : (s.setRunLevel x).answer = s.answer := rfl
@[simp] theorem setRunLevel_events (x : RunLevel) : (s.setRunLevel x).events = s.events := rfl

@[simp] theorem setWorkerLive_cfg (x : Bool) : (s.setWorkerLive x).cfg = s.cfg := rfl
@[simp] theorem setWorkerLive_mods (x : Bool) : (s.setWorkerLive x).mods = s.mods := rfl
@[simp] theorem setWorkerLive_latch (x : Bool) : (s.setWorkerLive x).latch = s.latch := rfl
@[simp] theorem setWorkerLive_clkSel (x : Bool) : (s.setWorkerLive x).clkSel = s.clkSel := rfl
@[simp] theorem setWorkerLive_secMem (x : Bool) : (s.setWorkerLive x).secMem = s.secMem := rfl
@[simp] theorem setWorkerLive_runLevel (x : Bool) : (s.setWorkerLive x).runLevel = s.runLevel := rfl
@[simp] theorem setWorkerLive_workerLive (x : Bool) : (s.setWorkerLive x).workerLive = x := rfl
@[simp] theorem setWorkerLive_coldPending (x : Bool) : (s.setWorkerLive x).coldPending = s.coldPending := rfl
@[simp] theorem setWorkerLive_driveMask (x : Bool) : (s.setWorkerLive x).driveMask = s.driveMask := rfl
@[simp] theorem setWorkerLive_div8 (x : Bool) : (s.setWorkerLive x).div8 = s.div8 := rfl
@[simp] theorem setWorkerLive_speedKHz (x : Bool) : (s.setWorkerLive x).speedKHz = s.speedKHz := rfl
@[simp] theorem setWorkerLive_gideGlow (x : Bool) : (s.setWorkerLive x).gideGlow = s.gideGlow := rfl
@[simp] theorem setWorkerLive_dmaGlow (x : Bool) : (s.setWorkerLive x).dmaGlow = s.dmaGlow := rfl
@[simp] theorem setWorkerLive_pageEn (x : Bool) : (s.setWorkerLive x).pageEn = s.pageEn := rfl
@[simp] theorem setWorkerLive_pageBank (x : Bool) : (s.setWorkerLive x).pageBank = s.pageBank := rfl
@[simp] theorem setWorkerLive_pageRam (x : Bool) : (s.setWorkerLive x).pageRam = s.pageRam := rfl
@[simp] theorem setWorkerLive_inputs (x : Bool) : (s.setWorkerLive x).inputs = s.inputs := rfl
@[simp] theorem setWorkerLive_arrivals (x : Bool) : (s.setWorkerLive x).arrivals = s.arrivals := rfl
@[simp] theorem setWorkerLive_answer (x : Bool) : (s.setWorkerLive x).answer = s.answer := rfl
@[simp] theorem setWorkerLive_events (x : Bool) : (s.setWorkerLive x).events = s.events := rfl

@[simp] theorem setColdPending_cfg (x : Bool) : (s.setColdPending x).cfg = s.cfg := rfl
@[simp] theorem setColdPending_mods (x : Bool) : (s.setColdPending x).mods = s.mods := rfl
@[simp] theorem setColdPending_latch (x : Bool) : (s.setColdPending x).latch = s.latch := rfl
@[simp] theorem setColdPending_clkSel (x : Bool) : (s.setColdPending x).clkSel = s.clkSel := rfl
@[simp] theorem setColdPending_secMem (x : Bool) : (s.setColdPending x).secMem = s.secMem := rfl
@[simp] theorem setColdPending_runLevel (x : Bool) : (s.setColdPending x).runLevel = s.runLevel := rfl
@[simp] theorem setColdPending_workerLive (x : Bool) : (s.setColdPending x).workerLive = s.workerLive := rfl
@[simp] theorem setColdPending_coldPending (x : Bool) : (s.setColdPending x).coldPending = x := rfl
@[simp] theorem setColdPending_driveMask (x : Bool) : (s.setColdPending x).driveMask = s.driveMask := rfl
@[simp] theorem setColdPending_div8 (x : Bool) : (s.setColdPending x).div8 = s.div8 := rfl
@[simp] theorem setColdPending_speedKHz (x : Bool) : (s.setColdPending x).speedKHz = s.speedKHz := rfl
@[simp] theorem setColdPending_gideGlow (x : Bool) : (s.setColdPending x).gideGlow = s.gideGlow := rfl
@[simp] theorem setColdPending_dmaGlow (x : Bool) : (s.setColdPending x).dmaGlow = s.dmaGlow := rfl
@[simp] theorem setColdPending_pageEn (x : Bool) : (s.setColdPending x).pageEn = s.pageEn := rfl
@[simp] theorem setColdPending_pageBank (x : Bool) : (s.setColdPending x).pageBank = s.pageBank := rfl
@[simp] theorem setColdPending_pageRam (x : Bool) : (s.setColdPending x).pageRam = s.pageRam := rfl
@[simp] theorem setColdPending_inputs (x : Bool) : (s.setColdPending x).inputs = s.inputs := rfl
@[simp] theorem setColdPending_arrivals (x : Bool) : (s.setColdPending x).arrivals = s.arrivals := rfl
@[simp] theorem setColdPending_answer (x : Bool) : (s.setColdPending x).answer = s.answer := rfl
@[simp] theorem setColdPending_events (x : Bool) : (s.setColdPending x).events = s.events := rfl

@[simp] theorem setDriveMask_cfg (x : BitVec 4) : (s.setDriveMask x).cfg = s.cfg := rfl
@[simp] theorem setDriveMask_mods (x : BitVec 4) : (s.setDriveMask x).mods = s.mods := rfl
@[simp] theorem setDriveMask_latch (x : BitVec 4) : (s.setDriveMask x).latch = s.latch := rfl
@[simp] theorem setDriveMask_clkSel (x : BitVec 4) : (s.setDriveMask x).clkSel = s.clkSel := rfl
@[simp] theorem setDriveMask_secMem (x : BitVec 4) : (s.setDriveMask x).secMem = s.secMem := rfl
@[simp] theorem setDriveMask_runLevel (x : BitVec 4) : (s.setDriveMask x).runLevel = s.runLevel := rfl
@[simp] theorem setDriveMask_workerLive (x : BitVec 4) : (s.setDriveMask x).workerLive = s.workerLive := rfl
@[simp] theorem setDriveMask_coldPending (x : BitVec 4) : (s.setDriveMask x).coldPending = s.coldPending := rfl
@[simp] theorem setDriveMask_driveMask (x : BitVec 4) : (s.setDriveMask x).driveMask = x := rfl
@[simp] theorem setDriveMask_div8 (x : BitVec 4) : (s.setDriveMask x).div8 = s.div8 := rfl
@[simp] theorem setDriveMask_speedKHz (x : BitVec 4) : (s.setDriveMask x).speedKHz = s.speedKHz := rfl
@[simp] theorem setDriveMask_gideGlow (x : BitVec 4) : (s.setDriveMask x).gideGlow = s.gideGlow := rfl
@[simp] theorem setDriveMask_dmaGlow (x : BitVec 4) : (s.setDriveMask x).dmaGlow = s.dmaGlow := rfl
@[simp] theorem setDriveMask_pageEn (x : BitVec 4) : (s.setDriveMask x).pageEn = s.pageEn := rfl
@[simp] theorem setDriveMask_pageBank (x : BitVec 4) : (s.setDriveMask x).pageBank = s.pageBank := rfl
@[simp] theorem setDriveMask_pageRam (x : BitVec 4) : (s.setDriveMask x).pageRam = s.pageRam := rfl
@[simp] theorem setDriveMask_inputs (x : BitVec 4) : (s.setDriveMask x).inputs = s.inputs := rfl
@[simp] theorem setDriveMask_arrivals (x : BitVec 4) : (s.setDriveMask x).arrivals = s.arrivals := rfl
@[simp] theorem setDriveMask_answer (x : BitVec 4) : (s.setDriveMask x).answer = s.answer := rfl
@[simp] theorem setDriveMask_events (x : BitVec 4) : (s.setDriveMask x).events = s.events := rfl

@[simp] theorem setDiv8_cfg (x : BitVec 3) : (s.setDiv8 x).cfg = s.cfg := rfl
@[simp] theorem setDiv8_mods (x : BitVec 3) : (s.setDiv8 x).mods = s.mods := rfl
@[simp] theorem setDiv8_latch (x : BitVec 3) : (s.setDiv8 x).latch = s.latch := rfl
@[simp] theorem setDiv8_clkSel (x : BitVec 3) : (s.setDiv8 x).clkSel = s.clkSel := rfl
@[simp] theorem setDiv8_secMem (x : BitVec 3) : (s.setDiv8 x).secMem = s.secMem := rfl
@[simp] theorem setDiv8_runLevel (x : BitVec 3) : (s.setDiv8 x).runLevel = s.runLevel := rfl
@[simp] theorem setDiv8_workerLive (x : BitVec 3) : (s.setDiv8 x).workerLive = s.workerLive := rfl
@[simp] theorem setDiv8_coldPending (x : BitVec 3) : (s.setDiv8 x).coldPending = s.coldPending := rfl
@[simp] theorem setDiv8_driveMask (x : BitVec 3) : (s.setDiv8 x).driveMask = s.driveMask := rfl
@[simp] theorem setDiv8_div8 (x : BitVec 3) : (s.setDiv8 x).div8 = x := rfl
@[simp] theorem setDiv8_speedKHz (x : BitVec 3) : (s.setDiv8 x).speedKHz = s.speedKHz := rfl
@[simp] theorem setDiv8_gideGlow (x : BitVec 3) : (s.setDiv8 x).gideGlow = s.gideGlow := rfl
@[simp] theorem setDiv8_dmaGlow (x : BitVec 3) : (s.setDiv8 x).dmaGlow = s.dmaGlow := rfl
@[simp] theorem setDiv8_pageEn (x : BitVec 3) : (s.setDiv8 x).pageEn = s.pageEn := rfl
@[simp] theorem setDiv8_pageBank (x : BitVec 3) : (s.setDiv8 x).pageBank = s.pageBank := rfl
@[simp] theorem setDiv8_pageRam (x : BitVec 3) : (s.setDiv8 x).pageRam = s.pageRam := rfl
@[simp] theorem setDiv8_inputs (x : BitVec 3) : (s.setDiv8 x).inputs = s.inputs := rfl
@[simp] theorem setDiv8_arrivals (x : BitVec 3) : (s.setDiv8 x).arrivals = s.arrivals := rfl
@[simp] theorem setDiv8_answer (x : BitVec 3) : (s.setDiv8 x).answer = s.answer := rfl
@[simp] theorem setDiv8_events (x : BitVec 3) : (s.setDiv8 x).events = s.events := rfl

@[simp] theorem setSpeed_cfg (x : KHz) : (s.setSpeed x).cfg = s.cfg := rfl
@[simp] theorem setSpeed_mods (x : KHz) : (s.setSpeed x).mods = s.mods := rfl
@[simp] theorem setSpeed_latch (x : KHz) : (s.setSpeed x).latch = s.latch := rfl
@[simp] theorem setSpeed_clkSel (x : KHz) : (s.setSpeed x).clkSel = s.clkSel := rfl
@[simp] theorem setSpeed_secMem (x : KHz) : (s.setSpeed x).secMem = s.secMem := rfl
@[simp] theorem setSpeed_runLevel (x : KHz) : (s.setSpeed x).runLevel = s.runLevel := rfl
@[simp] theorem setSpeed_workerLive (x : KHz) : (s.setSpeed x).workerLive = s.workerLive := rfl
@[simp] theorem setSpeed_coldPending (x : KHz) : (s.setSpeed x).coldPending = s.coldPending := rfl
@[simp] theorem setSpeed_driveMask (x : KHz) : (s.setSpeed x).driveMask = s.driveMask := rfl
@[simp] theorem setSpeed_div8 (x : KHz) : (s.setSpeed x).div8 = s.div8 := rfl
@[simp] theorem setSpeed_speedKHz (x : KHz) : (s.setSpeed x).speedKHz = x := rfl
@[simp] theorem setSpeed_gideGlow (x : KHz) : (s.setSpeed x).gideGlow = s.gideGlow := rfl
@[simp] theorem setSpeed_dmaGlow (x : KHz) : (s.setSpeed x).dmaGlow = s.dmaGlow := rfl
@[simp] theorem setSpeed_pageEn (x : KHz) : (s.setSpeed x).pageEn = s.pageEn := rfl
@[simp] theorem setSpeed_pageBank (x : KHz) : (s.setSpeed x).pageBank = s.pageBank := rfl
@[simp] theorem setSpeed_pageRam (x : KHz) : (s.setSpeed x).pageRam = s.pageRam := rfl
@[simp] theorem setSpeed_inputs (x : KHz) : (s.setSpeed x).inputs = s.inputs := rfl
@[simp] theorem setSpeed_arrivals (x : KHz) : (s.setSpeed x).arrivals = s.arrivals := rfl
@[simp] theorem setSpeed_answer (x : KHz) : (s.setSpeed x).answer = s.answer := rfl
@[simp] theorem setSpeed_events (x : KHz) : (s.setSpeed x).events = s.events := rfl

@[simp] theorem setGideGlow_cfg (x : Nat) : (s.setGideGlow x).cfg = s.cfg := rfl
@[simp] theorem setGideGlow_mods (x : Nat) : (s.setGideGlow x).mods = s.mods := rfl
@[simp] theorem setGideGlow_latch (x : Nat) : (s.setGideGlow x).latch = s.latch := rfl
@[simp] theorem setGideGlow_clkSel (x : Nat) : (s.setGideGlow x).clkSel = s.clkSel := rfl
@[simp] theorem setGideGlow_secMem (x : Nat) : (s.setGideGlow x).secMem = s.secMem := rfl
@[simp] theorem setGideGlow_runLevel (x : Nat) : (s.setGideGlow x).runLevel = s.runLevel := rfl
@[simp] theorem setGideGlow_workerLive (x : Nat) : (s.setGideGlow x).workerLive = s.workerLive := rfl
@[simp] theorem setGideGlow_coldPending (x : Nat) : (s.setGideGlow x).coldPending = s.coldPending := rfl
@[simp] theorem setGideGlow_driveMask (x : Nat) : (s.setGideGlow x).driveMask = s.driveMask := rfl
@[simp] theorem setGideGlow_div8 (x : Nat) : (s.setGideGlow x).div8 = s.div8 := rfl
@[simp] theorem setGideGlow_speedKHz (x : Nat) : (s.setGideGlow x).speedKHz = s.speedKHz := rfl
@[simp] theorem setGideGlow_gideGlow (x : Nat) : (s.setGideGlow x).gideGlow = x := rfl
@[simp] theorem setGideGlow_dmaGlow (x : Nat) : (s.setGideGlow x).dmaGlow = s.dmaGlow := rfl
@[simp] theorem setGideGlow_pageEn (x : Nat) : (s.setGideGlow x).pageEn = s.pageEn := rfl
@[simp] theorem setGideGlow_pageBank (x : Nat) : (s.setGideGlow x).pageBank = s.pageBank := rfl
@[simp] theorem setGideGlow_pageRam (x : Nat) : (s.setGideGlow x).pageRam = s.pageRam := rfl
@[simp] theorem setGideGlow_inputs (x : Nat) : (s.setGideGlow x).inputs = s.inputs := rfl
@[simp] theorem setGideGlow_arrivals (x : Nat) : (s.setGideGlow x).arrivals = s.arrivals := rfl
@[simp] theorem setGideGlow_answer (x : Nat) : (s.setGideGlow x).answer = s.answer := rfl
@[simp] theorem setGideGlow_events (x : Nat) : (s.setGideGlow x).events = s.events := rfl

@[simp] theorem setDmaGlow_cfg (x : Nat) : (s.setDmaGlow x).cfg = s.cfg := rfl
@[simp] theorem setDmaGlow_mods (x : Nat) : (s.setDmaGlow x).mods = s.mods := rfl
@[simp] theorem setDmaGlow_latch (x : Nat) : (s.setDmaGlow x).latch = s.latch := rfl
@[simp] theorem setDmaGlow_clkSel (x : Nat) : (s.setDmaGlow x).clkSel = s.clkSel := rfl
@[simp] theorem setDmaGlow_secMem (x : Nat) : (s.setDmaGlow x).secMem = s.secMem := rfl
@[simp] theorem setDmaGlow_runLevel (x : Nat) : (s.setDmaGlow x).runLevel = s.runLevel := rfl
@[simp] theorem setDmaGlow_workerLive (x : Nat) : (s.setDmaGlow x).workerLive = s.workerLive := rfl
@[simp] theorem setDmaGlow_coldPending (x : Nat) : (s.setDmaGlow x).coldPending = s.coldPending := rfl
@[simp] theorem setDmaGlow_driveMask (x : Nat) : (s.setDmaGlow x).driveMask = s.driveMask := rfl
@[simp] theorem setDmaGlow_div8 (x : Nat) : (s.setDmaGlow x).div8 = s.div8 := rfl
@[simp] theorem setDmaGlow_speedKHz (x : Nat) : (s.setDmaGlow x).speedKHz = s.speedKHz := rfl
@[simp] theorem setDmaGlow_gideGlow (x : Nat) : (s.setDmaGlow x).gideGlow = s.gideGlow := rfl
@[simp] theorem setDmaGlow_dmaGlow (x : Nat) : (s.setDmaGlow x).dmaGlow = x := rfl
@[simp] theorem setDmaGlow_pageEn (x : Nat) : (s.setDmaGlow x).pageEn = s.pageEn := rfl
@[simp] theorem setDmaGlow_pageBank (x : Nat) : (s.setDmaGlow x).pageBank = s.pageBank := rfl
@[simp] theorem setDmaGlow_pageRam (x : Nat) : (s.setDmaGlow x).pageRam = s.pageRam := rfl
@[simp] theorem setDmaGlow_inputs (x : Nat) : (s.setDmaGlow x).inputs = s.inputs := rfl
@[simp] theorem setDmaGlow_arrivals (x : Nat) : (s.setDmaGlow x).arrivals = s.arrivals := rfl
@[simp] theorem setDmaGlow_answer (x : Nat) : (s.setDmaGlow x).answer = s.answer := rfl
@[simp] theorem setDmaGlow_events (x : Nat) : (s.setDmaGlow x).events = s.events := rfl

@[simp] theorem setPage_cfg (en : Bool) (bank : BitVec 7) : (s.setPage en bank).cfg = s.cfg := rfl
@[simp] theorem setPage_mods (en : Bool) (bank : BitVec 7) : (s.setPage en bank).mods = s.mods := rfl
@[simp] theorem setPage_latch (en : Bool) (bank : BitVec 7) : (s.setPage en bank).latch = s.latch := rfl
@[simp] theorem setPage_clkSel (en : Bool) (bank : BitVec 7) : (s.setPage en bank).clkSel = s.clkSel := rfl
@[simp] theorem setPage_secMem (en : Bool) (bank : BitVec 7) : (s.setPage en bank).secMem = s.secMem := rfl
@[simp] theorem setPage_runLevel (en : Bool) (bank : BitVec 7) : (s.setPage en bank).runLevel = s.runLevel := rfl
@[simp] theorem setPage_workerLive (en : Bool) (bank : BitVec 7) : (s.setPage en bank).workerLive = s.workerLive := rfl
@[simp] theorem setPage_coldPending (en : Bool) (bank : BitVec 7) : (s.setPage en bank).coldPending = s.coldPending := rfl
@[simp] theorem setPage_driveMask (en : Bool) (bank : BitVec 7) : (s.setPage en bank).driveMask = s.driveMask := rfl
@[simp] theorem setPage_div8 (en : Bool) (bank : BitVec 7) : (s.setPage en bank).div8 = s.div8 := rfl
@[simp] theorem setPage_speedKHz (en : Bool) (bank : BitVec 7) : (s.setPage en bank).speedKHz = s.speedKHz := rfl
@[simp] theorem setPage_gideGlow (en : Bool) (bank : BitVec 7) : (s.setPage en bank).gideGlow = s.gideGlow := rfl
@[simp] theorem setPage_dmaGlow (en : Bool) (bank : BitVec 7) : (s.setPage en bank).dmaGlow = s.dmaGlow := rfl
@[simp] theorem setPage_pageEn (en : Bool) (bank : BitVec 7) : (s.setPage en bank).pageEn = en := rfl
@[simp] theorem setPage_pageBank (en : Bool) (bank : BitVec 7) : (s.setPage en bank).pageBank = bank := rfl
@[simp] theorem setPage_pageRam (en : Bool) (bank : BitVec 7) : (s.setPage en bank).pageRam = s.pageRam := rfl
@[simp] theorem setPage_inputs (en : Bool) (bank : BitVec 7) : (s.setPage en bank).inputs = s.inputs := rfl
@[simp] theorem setPage_arrivals (en : Bool) (bank : BitVec 7) : (s.setPage en bank).arrivals = s.arrivals := rfl
@[simp] theorem setPage_answer (en : Bool) (bank : BitVec 7) : (s.setPage en bank).answer = s.answer := rfl
@[simp] theorem setPage_events (en : Bool) (bank : BitVec 7) : (s.setPage en bank).events = s.events := rfl

@[simp] theorem setPageRam_cfg (x : Memory) : (s.setPageRam x).cfg = s.cfg := rfl
@[simp] theorem setPageRam_mods (x : Memory) : (s.setPageRam x).mods = s.mods := rfl
@[simp] theorem setPageRam_latch (x : Memory) : (s.setPageRam x).latch = s.latch := rfl
@[simp] theorem setPageRam_clkSel (x : Memory) : (s.setPageRam x).clkSel = s.clkSel := rfl
@[simp] theorem setPageRam_secMem (x : Memory) : (s.setPageRam x).secMem = s.secMem := rfl
@[simp] theorem setPageRam_runLevel (x : Memory) : (s.setPageRam x).runLevel = s.runLevel := rfl
@[simp] theorem setPageRam_workerLive (x : Memory) : (s.setPageRam x).workerLive = s.workerLive := rfl
@[simp] theorem setPageRam_coldPending (x : Memory) : (s.setPageRam x).coldPending = s.coldPending := rfl
@[simp] theorem setPageRam_driveMask (x : Memory) : (s.setPageRam x).driveMask = s.driveMask := rfl
@[simp] theorem setPageRam_div8 (x : Memory) : (s.setPageRam x).div8 = s.div8 := rfl
@[simp] theorem setPageRam_speedKHz (x : Memory) : (s.setPageRam x).speedKHz = s.speedKHz := rfl
@[simp] theorem setPageRam_gideGlow (x : Memory) : (s.setPageRam x).gideGlow = s.gideGlow := rfl
@[simp] theorem setPageRam_dmaGlow (x : Memory) : (s.setPageRam x).dmaGlow = s.dmaGlow := rfl
@[simp] theorem setPageRam_pageEn (x : Memory) : (s.setPageRam x).pageEn = s.pageEn := rfl
@[simp] theorem setPageRam_pageBank (x : Memory) : (s.setPageRam x).pageBank = s.pageBank := rfl
@[simp] theorem setPageRam_pageRam (x : Memory) : (s.setPageRam x).pageRam = x := rfl
@[simp] theorem setPageRam_inputs (x : Memory) : (s.setPageRam x).inputs = s.inputs := rfl
@[simp] theorem setPageRam_arrivals (x : Memory) : (s.setPageRam x).arrivals = s.arrivals := rfl
@[simp] theorem setPageRam_answer (x : Memory) : (s.setPageRam x).answer = s.answer := rfl
@[simp] theorem setPageRam_events (x : Memory) : (s.setPageRam x).events = s.events := rfl

@[simp] theorem setAnswer_cfg (x : Answer) : (s.setAnswer x).cfg = s.cfg := rfl
@[simp] theorem setAnswer_mods (x : Answer) : (s.setAnswer x).mods = s.mods := rfl
@[simp] theorem setAnswer_latch (x : Answer) : (s.setAnswer x).latch = s.latch := rfl
@[simp] theorem setAnswer_clkSel (x : Answer) : (s.setAnswer x).clkSel = s.clkSel := rfl
@[simp] theorem setAnswer_secMem (x : Answer) : (s.setAnswer x).secMem = s.secMem := rfl
@[simp] theorem setAnswer_runLevel (x : Answer) : (s.setAnswer x).runLevel = s.runLevel := rfl
@[simp] theorem setAnswer_workerLive (x : Answer) : (s.setAnswer x).workerLive = s.workerLive := rfl
@[simp] theorem setAnswer_coldPending (x : Answer) : (s.setAnswer x).coldPending = s.coldPending := rfl
@[simp] theorem setAnswer_driveMask (x : Answer) : (s.setAnswer x).driveMask = s.driveMask := rfl
@[simp] theorem setAnswer_div8 (x : Answer) : (s.setAnswer x).div8 = s.div8 := rfl
@[simp] theorem setAnswer_speedKHz (x : Answer) : (s.setAnswer x).speedKHz = s.speedKHz := rfl
@[simp] theorem setAnswer_gideGlow (x : Answer) : (s.setAnswer x).gideGlow = s.gideGlow := rfl
@[simp] theorem setAnswer_dmaGlow (x : Answer) : (s.setAnswer x).dmaGlow = s.dmaGlow := rfl
@[simp] theorem setAnswer_pageEn (x : Answer) : (s.setAnswer x).pageEn = s.pageEn := rfl
@[simp] theorem setAnswer_pageBank (x : Answer) : (s.setAnswer x).pageBank = s.pageBank := rfl
@[simp] theorem setAnswer_pageRam (x : Answer) : (s.setAnswer x).pageRam = s.pageRam := rfl
@[simp] theorem setAnswer_inputs (x : Answer) : (s.setAnswer x).inputs = s.inputs := rfl
@[simp] theorem setAnswer_arrivals (x : Answer) : (s.setAnswer x).arrivals = s.arrivals := rfl
@[simp] theorem setAnswer_answer (x : Answer) : (s.setAnswer x).answer = x := rfl
@[simp] theorem setAnswer_events (x : Answer) : (s.setAnswer x).events = s.events := rfl

@[simp] theorem emit_cfg (e : Event) : (s.emit e).cfg = s.cfg := rfl
@[simp] theorem emit_mods (e : Event) : (s.emit e).mods = s.mods := rfl
@[simp] theorem emit_latch (e : Event) : (s.emit e).latch = s.latch := rfl
@[simp] theorem emit_clkSel (e : Event) : (s.emit e).clkSel = s.clkSel := rfl
@[simp] theorem emit_secMem (e : Event) : (s.emit e).secMem = s.secMem := rfl
@[simp] theorem emit_runLevel (e : Event) : (s.emit e).runLevel = s.runLevel := rfl
@[simp] theorem emit_workerLive (e : Event) : (s.emit e).workerLive = s.workerLive := rfl
@[simp] theorem emit_coldPending (e : Event) : (s.emit e).coldPending = s.coldPending := rfl
@[simp] theorem emit_driveMask (e : Event) : (s.emit e).driveMask = s.driveMask := rfl
@[simp] theorem emit_div8 (e : Event) : (s.emit e).div8 = s.div8 := rfl
@[simp] theorem emit_speedKHz (e : Event) : (s.emit e).speedKHz = s.speedKHz := rfl
@[simp] theorem emit_gideGlow (e : Event) : (s.emit e).gideGlow = s.gideGlow := rfl
@[simp] theorem emit_dmaGlow (e : Event) : (s.emit e).dmaGlow = s.dmaGlow := rfl
@[simp] theorem emit_pageEn (e : Event) : (s.emit e).pageEn = s.pageEn := rfl
@[simp] theorem emit_pageBank (e : Event) : (s.emit e).pageBank = s.pageBank := rfl
@[simp] theorem emit_pageRam (e : Event) : (s.emit e).pageRam = s.pageRam := rfl
@[simp] theorem emit_inputs (e : Event) : (s.emit e).inputs = s.inputs := rfl
@[simp] theorem emit_arrivals (e : Event) : (s.emit e).arrivals = s.arrivals := rfl
@[simp] theorem emit_answer (e : Event) : (s.emit e).answer = s.answer := rfl
@[simp] theorem emit_events (e : Event) : (s.emit e).events = s.events ++ [e] := rfl

@[simp] theorem arrive_cfg (rest : List TxWord) : (s.arrive rest).cfg = s.cfg := rfl
@[simp] theorem arrive_mods (rest : List TxWord) : (s.arrive rest).mods = s.mods := rfl
@[simp] theorem arrive_latch (rest : List TxWord) : (s.arrive rest).latch = s.latch := rfl
@[simp] theorem arrive_clkSel (rest : List TxWord) : (s.arrive rest).clkSel = s.clkSel := rfl
@[simp] theorem arrive_secMem (rest : List TxWord) : (s.arrive rest).secMem = s.secMem := rfl
@[simp] theorem arrive_runLevel (rest : List TxWord) : (s.arrive rest).runLevel = s.runLevel := rfl
@[simp] theorem arrive_workerLive (rest : List TxWord) : (s.arrive rest).workerLive = s.workerLive := rfl
@[simp] theorem arrive_coldPending (rest : List TxWord) : (s.arrive rest).coldPending = s.coldPending := rfl
@[simp] theorem arrive_driveMask (rest : List TxWord) : (s.arrive rest).driveMask = s.driveMask := rfl
@[simp] theorem arrive_div8 (rest : List TxWord) : (s.arrive rest).div8 = s.div8 := rfl
@[simp] theorem arrive_speedKHz (rest : List TxWord) : (s.arrive rest).speedKHz = s.speedKHz := rfl
@[simp] theorem arrive_gideGlow (rest : List TxWord) : (s.arrive rest).gideGlow = s.gideGlow := rfl
@[simp] theorem arrive_dmaGlow (rest : List TxWord) : (s.arrive rest).dmaGlow = s.dmaGlow := rfl
@[simp] theorem arrive_pageEn (rest : List TxWord) : (s.arrive rest).pageEn = s.pageEn := rfl
@[simp] theorem arrive_pageBank (rest : List TxWord) : (s.arrive rest).pageBank = s.pageBank := rfl
@[simp] theorem arrive_pageRam (rest : List TxWord) : (s.arrive rest).pageRam = s.pageRam := rfl
@[simp] theorem arrive_inputs (rest : List TxWord) : (s.arrive rest).inputs = rest := rfl
@[simp] theorem arrive_arrivals (rest : List TxWord) : (s.arrive rest).arrivals = s.arrivals + 1 := rfl
@[simp] theorem arrive_answer (rest : List TxWord) : (s.arrive rest).answer = s.answer := rfl
@[simp] theorem arrive_events (rest : List TxWord) : (s.arrive rest).events = s.events := rfl

end Sys2Proof.Machine.State
end

