-- ==== Sys2Proof/Laws/Ops.lean ====
section
/-! SUPPORT. For each shared operation one lemma that says what it can do; proofs cite these and do not unfold it. -/

namespace Sys2Proof.Machine

/-! ## First match -/

theorem findSome?_first {α β : Type} (f : α → Option β) {before after : List α} {m : α} {v : β}
    (hb : ∀ x ∈ before, f x = none) (hm : f m = some v) : (before ++ m :: after).findSome? f = some v := by
  rw [List.findSome?_append, List.findSome?_eq_none_iff.2 hb]
  simp [hm]

theorem findSome?_none {α β : Type} (f : α → Option β) {l : List α} (h : ∀ x ∈ l, f x = none) :
    l.findSome? f = none := List.findSome?_eq_none_iff.2 h

/-- The search goes on after `NOT_HANDLED` (R81). -/
theorem busWrite_cons_notHandled {c : Config} {a : Addr} {v : Byte} {x : Module} {rest : List Module}
    (h : (x.writeMem c a v).1 = .notHandled) :
    busWrite c a v (x :: rest) = ((busWrite c a v rest).1, x :: (busWrite c a v rest).2) := by
  rw [busWrite]
  rcases hx : x.writeMem c a v with ⟨o, m'⟩
  rw [hx] at h
  cases o <;> simp_all

/-- The search stops at any other outcome (R81). -/
theorem busWrite_cons_handled {c : Config} {a : Addr} {v : Byte} {x : Module} {rest : List Module}
    (h : (x.writeMem c a v).1 ≠ .notHandled) :
    busWrite c a v (x :: rest) = ((x.writeMem c a v).1, (x.writeMem c a v).2 :: rest) := by
  rw [busWrite]
  rcases hx : x.writeMem c a v with ⟨o, m'⟩
  rw [hx] at h
  cases o <;> simp_all

/-- The bus write stops at the first outcome that is not `NOT_HANDLED` (R81). -/
theorem busWrite_first (c : Config) (a : Addr) (v : Byte) {before after : List Module} {m : Module}
    (hb : ∀ x ∈ before, (x.writeMem c a v).1 = .notHandled) (hm : (m.writeMem c a v).1 ≠ .notHandled) :
    busWrite c a v (before ++ m :: after) = ((m.writeMem c a v).1, before ++ (m.writeMem c a v).2 :: after) := by
  induction before with
  | nil =>
    exact busWrite_cons_handled hm
  | cons x before ih =>
    have hx : (x.writeMem c a v).1 = .notHandled := hb x (by simp)
    rw [List.cons_append, busWrite_cons_notHandled hx, ih fun y hy => hb y (List.mem_cons_of_mem _ hy)]
    rfl

/-- Nothing handled, nothing changed (R81). -/
theorem busWrite_none (c : Config) (a : Addr) (v : Byte) {mods : List Module}
    (h : ∀ x ∈ mods, (x.writeMem c a v).1 = .notHandled) : busWrite c a v mods = (.notHandled, mods) := by
  induction mods with
  | nil => rfl
  | cons x mods ih =>
    have hx : (x.writeMem c a v).1 = .notHandled := h x (by simp)
    rw [busWrite_cons_notHandled hx, ih fun y hy => h y (List.mem_cons_of_mem _ hy)]

/-- What `writeMem` can do to a module: nothing, or one byte of a RAM's store at the claimed index. -/
theorem writeMem_cases (m : Module) (c : Config) (a : Addr) (v : Byte) :
    (m.writeMem c a v).2 = m ∨
    ∃ d we i, m.params.kind = .ram d we ∧ m.claimIndex c a = some i ∧ m.writeEnable we = true ∧
      m.writeMem c a v = (.handledWritten, { m with store := m.store.set i v }) := by
  unfold Module.writeMem
  cases hi : m.claimIndex c a with
  | none => exact .inl rfl
  | some i =>
    cases hk : m.params.kind with
    | rom d image => exact .inl rfl
    | peripheral => exact .inl rfl
    | ds => exact .inl rfl
    | ram d we =>
      by_cases hw : m.writeEnable we = true
      · exact .inr ⟨d, we, i, by simp, by simp, hw, by simp [hw]⟩
      · exact .inl (by simp [hw])

/-- A property of modules that `writeMem` keeps is kept by the bus write. -/
theorem busWrite_all {P : Module → Prop} (c : Config) (a : Addr) (v : Byte)
    (hw : ∀ m, P m → P (m.writeMem c a v).2) {mods : List Module} (h : ∀ m ∈ mods, P m) :
    ∀ m ∈ (busWrite c a v mods).2, P m := by
  induction mods with
  | nil => simp [busWrite]
  | cons x mods ih =>
    have hx := h x (by simp)
    have hr := ih fun m hm => h m (List.mem_cons_of_mem _ hm)
    by_cases ho : (x.writeMem c a v).1 = .notHandled
    · rw [busWrite_cons_notHandled ho]
      exact List.forall_mem_cons.2 ⟨hx, hr⟩
    · rw [busWrite_cons_handled ho]
      exact List.forall_mem_cons.2 ⟨hw x hx, fun y hy => h y (List.mem_cons_of_mem _ hy)⟩

@[simp] theorem writeMem_params (m : Module) (c : Config) (a : Addr) (v : Byte) :
    (m.writeMem c a v).2.params = m.params := by
  rcases writeMem_cases m c a v with h | ⟨d, we, i, _, _, _, h⟩ <;> rw [h]

@[simp] theorem writeMem_status (m : Module) (c : Config) (a : Addr) (v : Byte) :
    (m.writeMem c a v).2.status = m.status := by
  rcases writeMem_cases m c a v with h | ⟨d, we, i, _, _, _, h⟩ <;> rw [h]

/-- A bus write changes no constant of a module. -/
@[simp] theorem busWrite_params (c : Config) (a : Addr) (v : Byte) (mods : List Module) :
    (busWrite c a v mods).2.map (·.params) = mods.map (·.params) := by
  induction mods with
  | nil => rfl
  | cons x mods ih =>
    by_cases ho : (x.writeMem c a v).1 = .notHandled
    · rw [busWrite_cons_notHandled ho]
      simp [ih]
    · rw [busWrite_cons_handled ho]
      simp

@[simp] theorem setSlotStatus_params (mods : List Module) (slot v : Byte) :
    (setSlotStatus mods slot v).map (·.params) = mods.map (·.params) := by
  unfold setSlotStatus
  rw [List.map_map]
  apply List.map_congr_left
  intro m _
  by_cases h : m.params.slotId = slot <;> simp [h, Module.setStatus]

@[simp] theorem resetModules_params (mods : List Module) :
    (resetModules mods).map (·.params) = mods.map (·.params) := by
  simp [resetModules, Module.setStatus, Function.comp_def]

/-! ## Host I/O -/

/-- What a host I/O read does: it answers, and nothing else (R82). -/
theorem ioRead_eq (s : State) (p : Port) :
    ∃ claimed v, ioRead s p = s.setAnswer (.hostRead claimed v) ∧
      (claimed = false → v = fillByte ∧ ∀ m ∈ s.mods, m.readIO s p = none) := by
  unfold ioRead
  cases h : s.mods.findSome? (fun m => m.readIO s p) with
  | some v => exact ⟨true, v, rfl, by simp⟩
  | none => exact ⟨false, fillByte, rfl, fun _ => ⟨rfl, List.findSome?_eq_none_iff.1 h⟩⟩

/-- What a host I/O write does (R83, R144): its answer alone, one byte of the secondary memory, or a control write. -/
theorem ioWrite_cases (s : State) (p : Port) (v : Byte) :
    (∃ o, ioWrite s p v = s.setAnswer (.hostWrite o)) ∨
    (∃ d, s.cfg.ds = some d ∧ isBridgePort (portLow p) = true ∧
      ioWrite s p v = (s.setSecMem (s.secMem.set (bridgeAddr p) v)).setAnswer (.hostWrite .handledWritten)) ∨
    (∃ d, s.cfg.ds = some d ∧ portLow p = d.ctrlPort ∧
      ioWrite s p v = (controlWrite d s v).setAnswer (.hostWrite .handledWritten)) := by
  unfold ioWrite
  cases hc : ioWriteClaim s p with
  | none => exact .inl ⟨_, rfl⟩
  | some k =>
    obtain ⟨m, _, hm⟩ := List.exists_of_findSome?_eq_some hc
    unfold Module.claimIoWrite at hm
    cases k with
    | peripheral => exact .inl ⟨_, rfl⟩
    | bridge =>
      refine .inr (.inl ?_)
      cases hk : m.params.kind <;> simp only [hk] at hm
      · exact absurd hm (by simp)
      · exact absurd hm (by simp)
      · split at hm <;> simp at hm
      · cases hd : s.cfg.ds with
        | none => simp [hd] at hm
        | some d =>
          simp only [hd] at hm
          split at hm
          · simp at hm
          · split at hm
            · rename_i h; exact ⟨d, rfl, (Bool.and_eq_true _ _ ▸ h).2, rfl⟩
            · simp at hm
    | control =>
      refine .inr (.inr ?_)
      cases hk : m.params.kind <;> simp only [hk] at hm
      · exact absurd hm (by simp)
      · exact absurd hm (by simp)
      · split at hm <;> simp at hm
      · cases hd : s.cfg.ds with
        | none => simp [hd] at hm
        | some d =>
          simp only [hd] at hm
          split at hm
          · rename_i h
            exact ⟨d, rfl, of_decide_eq_true (Bool.and_eq_true _ _ ▸ h).1, rfl⟩
          · split at hm <;> simp at hm

/-! ## Lifecycle actions -/

/-- An action changes the run level, the worker flip-flop, the cold clear and the events, nothing else, and adds at most
one `SecNmi`, while `Running`. -/
theorem runAction_spec (s : State) (b : CtrlBit) :
    ∃ l w c es, runAction s b = { s with runLevel := l, workerLive := w, coldPending := c, events := s.events ++ es } ∧
      (es = [] ∨ es = [.secNmi] ∧ s.runLevel = .running) ∧ (s.workerLive = true → w = true) ∧
      (l = .running → s.runLevel = .running) := by
  cases b
  · unfold runAction enableCpu
    by_cases h : s.workerLive = true
    · exact ⟨s.runLevel, s.workerLive, s.coldPending, [], by rw [if_pos h, List.append_nil]; simp⟩
    · refine ⟨.startingUp, true, true, [], ?_⟩
      simp [h, State.setWorkerLive, State.setRunLevel, State.setColdPending]
  · exact ⟨.down, s.workerLive, s.coldPending, [], by simp [runAction, requestStop, State.setRunLevel]⟩
  · unfold runAction requestReset
    by_cases h : s.runLevel = .running
    · exact ⟨.startingUp, s.workerLive, s.coldPending, [], by simp [h, State.setRunLevel]⟩
    · exact ⟨s.runLevel, s.workerLive, s.coldPending, [], by simp [h]⟩
  · unfold runAction requestNmi
    by_cases h : s.runLevel = .running
    · exact ⟨s.runLevel, s.workerLive, s.coldPending, [.secNmi], by simp [h, State.emit]⟩
    · exact ⟨s.runLevel, s.workerLive, s.coldPending, [], by simp [h]⟩

/-- The same for several actions in a row: all the events they add are NMIs, and there are some only if the first state
was `Running`. -/
theorem foldl_runAction_spec (bs : List CtrlBit) (s : State) :
    ∃ l w c es, bs.foldl runAction s =
        { s with runLevel := l, workerLive := w, coldPending := c, events := s.events ++ es } ∧
      (∀ e ∈ es, e = .secNmi ∧ s.runLevel = .running) ∧ (s.workerLive = true → w = true) ∧
      (l = .running → s.runLevel = .running) := by
  induction bs generalizing s with
  | nil => exact ⟨s.runLevel, s.workerLive, s.coldPending, [], by simp⟩
  | cons b bs ih =>
    obtain ⟨l, w, c, es, h, hes, hw, hl⟩ := runAction_spec s b
    obtain ⟨l', w', c', es', h', hes', hw', hl'⟩ := ih (runAction s b)
    refine ⟨l', w', c', es ++ es', ?_, ?_, ?_, ?_⟩
    · rw [List.foldl_cons, h', h]
      simp
    · intro e he
      rcases List.mem_append.1 he with he | he
      · rcases hes with rfl | ⟨rfl, hr⟩
        · simp at he
        · exact ⟨by simpa using he, hr⟩
      · obtain ⟨h1, h2⟩ := hes' e he
        exact ⟨h1, hl (by simpa [h] using h2)⟩
    · intro h1
      exact hw' (by simp [h, hw h1])
    · intro h1
      exact hl (by simpa [h] using hl' h1)

/-- An action changes nothing of the configuration. -/
@[simp] theorem runAction_cfg (s : State) (b : CtrlBit) : (runAction s b).cfg = s.cfg := by
  obtain ⟨l, w, c, es, h, _⟩ := runAction_spec s b
  rw [h]

/-- With a disk station, executing the operations of control bits is running their actions (R142). -/
theorem executeActions_eq {s : State} {d : DsParams} (hd : s.cfg.ds = some d) (bits : List CtrlBit) :
    s.executeActions bits = bits.foldl runAction s := by
  induction bits generalizing s with
  | nil => rfl
  | cons b bits ih =>
    have hb : exec b.action s = .next (runAction s b) := by
      cases b <;>
        simp only [CtrlBit.action, exec, execEncpu, execStopcpu, execRstcpu, execNmicpu, withDs, hd, runAction]
    have hc : (runAction s b).cfg.ds = some d := by rw [runAction_cfg, hd]
    rw [List.foldl_cons, ← ih hc]
    simp only [State.executeActions, List.foldl_cons, hb]

/-! ## Afterglow -/

/-- `ceil` (R110): the least count that lasts as long. -/
theorem rescaleGlow_le_iff (glow new old n : Nat) (h : 0 < old) :
    rescaleGlow glow new old ≤ n ↔ glow * new ≤ n * old := by
  unfold rescaleGlow
  rw [Nat.div_le_iff_le_mul_add_pred h, Nat.mul_comm old n]
  omega

/-- A rescaled counter is dark exactly when it was (R165). -/
theorem glowAfterSpeed_eq_zero (d : DsParams) (glow new old : Nat) (hn : 0 < new) (ho : 0 < old) :
    glowAfterSpeed d glow new old = 0 ↔ glow = 0 := by
  unfold glowAfterSpeed
  cases d.afterglow with
  | keep => rfl
  | rescale =>
    by_cases h : glow = 0
    · simp [h]
    · simp only [h, if_false, iff_false]
      intro h0
      have := (rescaleGlow_le_iff glow new old 0 ho).1 (le_of_eq h0)
      simp only [Nat.zero_mul, Nat.le_zero, Nat.mul_eq_zero] at this
      omega

@[simp] theorem glowAfterSpeed_zero (d : DsParams) (new old : Nat) : glowAfterSpeed d 0 new old = 0 := by
  unfold glowAfterSpeed
  cases d.afterglow <;> simp

/-- A speed change keeps a counter within its bound (R28). -/
theorem glowOk_afterSpeed (d : DsParams) (glow : Nat) (k old : KHz) (ho : old ≠ 0)
    (h : glowOk d glow old = true) : glowOk d (glowAfterSpeed d glow k.toNat old.toNat) k = true := by
  have ho' : 0 < old.toNat := by
    rcases Nat.eq_zero_or_pos old.toNat with h0 | h0
    · exact absurd (BitVec.eq_of_toNat_eq (by simpa using h0)) ho
    · exact h0
  have hk : k.toNat < 65536 := k.isLt
  unfold glowOk glowAfterSpeed at *
  cases hm : d.afterglow with
  | keep => simpa [hm] using h
  | rescale =>
    simp only [hm, Bool.and_eq_true, decide_eq_true_eq, maxGlow] at *
    suffices hb : (if glow = 0 then 0 else rescaleGlow glow k.toNat old.toNat) ≤ k.toNat * 100 from
      ⟨decide_eq_true (by omega), by simpa using hb⟩
    · split
      · omega
      · rw [rescaleGlow_le_iff _ _ _ _ ho']
        calc glow * k.toNat ≤ (old.toNat * 100) * k.toNat := Nat.mul_le_mul_right _ h.2
          _ = k.toNat * 100 * old.toNat := by ring

/-- What `glowLoad` does (R161, R185). -/
theorem glowLoad_gide (s : State) :
    glowLoad s .gide = { s with gideGlow := s.speedKHz.toNat * 100
                                events := s.events ++ if s.gideGlow = 0 then [.dirty .gide] else [] } := by
  unfold glowLoad
  by_cases h : s.gideGlow = 0 <;> simp [State.glow, State.setGlow, State.setGideGlow, State.emit, h]

/-- What `glowLoad` does (R161, R185). -/
theorem glowLoad_dma (s : State) :
    glowLoad s .dma = { s with dmaGlow := s.speedKHz.toNat * 100
                               events := s.events ++ if s.dmaGlow = 0 then [.dirty .dma] else [] } := by
  unfold glowLoad
  by_cases h : s.dmaGlow = 0 <;> simp [State.glow, State.setGlow, State.setDmaGlow, State.emit, h]

/-- What `glowTick` does (R162). -/
theorem glowTick_gide (s : State) :
    glowTick s .gide = { s with gideGlow := s.gideGlow - 1
                                events := s.events ++ if s.gideGlow = 1 then [.dirty .gide] else [] } := by
  unfold glowTick
  by_cases h : s.gideGlow = 0
  · simp [State.glow, h]
    rw [← h]
  · by_cases h1 : s.gideGlow = 1 <;>
      simp [State.glow, State.setGlow, State.setGideGlow, State.emit, h, h1]

/-- What `glowTick` does (R162). -/
theorem glowTick_dma (s : State) :
    glowTick s .dma = { s with dmaGlow := s.dmaGlow - 1
                               events := s.events ++ if s.dmaGlow = 1 then [.dirty .dma] else [] } := by
  unfold glowTick
  by_cases h : s.dmaGlow = 0
  · simp [State.glow, h]
    rw [← h]
  · by_cases h1 : s.dmaGlow = 1 <;>
      simp [State.glow, State.setGlow, State.setDmaGlow, State.emit, h, h1]

/-- What a clock tick changes (R160): the prescaler, the counters that exist and the events. -/
theorem clockTick_spec (d : DsParams) (s : State) :
    ∃ es, clockTick d s = { s with div8 := s.div8 + 1
                                   gideGlow := if d.gidePresent then s.gideGlow - 1 else s.gideGlow
                                   dmaGlow := if d.ext?.isSome then s.dmaGlow - 1 else s.dmaGlow
                                   events := s.events ++ es } ∧
      es = (if s.div8 + 1 = 0 then [.ctc0Pulse] else [])
        ++ (if d.gidePresent = true ∧ s.gideGlow = 1 then [.dirty .gide] else [])
        ++ (if d.ext?.isSome = true ∧ s.dmaGlow = 1 then [.dirty .dma] else []) := by
  refine ⟨_, ?_, rfl⟩
  have hp : prescalerTick s = { s with div8 := s.div8 + 1
                                       events := s.events ++ if s.div8 + 1 = 0 then [.ctc0Pulse] else [] } := by
    unfold prescalerTick
    by_cases h : s.div8 + 1 = 0
    · rw [if_pos h, if_pos h]; rfl
    · rw [if_neg h, if_neg h, List.append_nil]; rfl
  unfold clockTick glowTickIf hasIndicator
  rw [hp]
  by_cases hg : d.gidePresent = true <;> by_cases hx : d.ext?.isSome = true <;>
    simp [hg, hx, glowTick_gide, glowTick_dma]

/-- What the clock-rate bit changes (R186): nothing, or the level, the rate with the counters, and one `SecSpeed`. -/
theorem applyClockBit_cases (d : DsParams) (s : State) (v : Byte) :
    (applyClockBit d s v = s ∧
      ∀ e, d.variant = .ext e → d.fixedSpeed = none → v.getLsbD e.clkBit.val = s.clkSel) ∨
    ∃ e, d.variant = .ext e ∧ d.fixedSpeed = none ∧ v.getLsbD e.clkBit.val ≠ s.clkSel ∧
      applyClockBit d s v =
        (setSpeedTo d (s.setClkSel (v.getLsbD e.clkBit.val))
          (if v.getLsbD e.clkBit.val then e.speedB else e.speedA)).emit
          (.secSpeed (if v.getLsbD e.clkBit.val then e.speedB else e.speedA)) := by
  unfold applyClockBit
  cases hv : d.variant with
  | base => simp
  | ext e =>
    cases hf : d.fixedSpeed with
    | some k => simp
    | none =>
      by_cases h : v.getLsbD e.clkBit.val = s.clkSel
      · exact .inl ⟨if_pos h, fun e' he' _ => by cases he'; exact h⟩
      · exact .inr ⟨e, rfl, rfl, h, if_neg h⟩

/-- What a control write changes (R142, R186). -/
theorem controlWrite_spec (d : DsParams) (s : State) (v : Byte) :
    ∃ l w c clk k g m es, controlWrite d s v =
        { s with latch := v.extractLsb' 0 4, runLevel := l, workerLive := w, coldPending := c, clkSel := clk
                 speedKHz := k, gideGlow := g, dmaGlow := m, events := s.events ++ es } ∧
      (s.workerLive = true → w = true) ∧ (l = .running → s.runLevel = .running) ∧
      (∀ x ∈ es, x = .secNmi ∧ s.runLevel = .running ∨ x = .secSpeed k) := by
  obtain ⟨l, w, c, es, hf, hes, hw, hl⟩ :=
    foldl_runAction_spec (decodeEdges d.edgeOrder s.latch v) (s.setLatch (v.extractLsb' 0 4))
  unfold controlWrite
  rw [hf]
  rcases applyClockBit_cases d { s.setLatch (v.extractLsb' 0 4) with
      runLevel := l, workerLive := w, coldPending := c
      events := (s.setLatch (v.extractLsb' 0 4)).events ++ es } v with ⟨h, _⟩ | ⟨e, _, _, _, h⟩
  · rw [h]
    exact ⟨l, w, c, s.clkSel, s.speedKHz, s.gideGlow, s.dmaGlow, es, by simp [State.setLatch], hw, hl,
      fun x hx => .inl (hes x hx)⟩
  · rw [h]
    refine ⟨l, w, c, v.getLsbD e.clkBit.val, if v.getLsbD e.clkBit.val then e.speedB else e.speedA,
      glowAfterSpeed d s.gideGlow (if v.getLsbD e.clkBit.val then e.speedB else e.speedA).toNat s.speedKHz.toNat,
      glowAfterSpeed d s.dmaGlow (if v.getLsbD e.clkBit.val then e.speedB else e.speedA).toNat s.speedKHz.toNat,
      es ++ [.secSpeed (if v.getLsbD e.clkBit.val then e.speedB else e.speedA)], by
      simp only [setSpeedTo, State.setLatch, State.setClkSel, State.setGideGlow, State.setDmaGlow, State.setSpeed,
        State.emit, List.append_assoc], hw, hl, ?_⟩
    intro x hx
    rcases List.mem_append.1 hx with hx | hx
    · exact .inl (hes x hx)
    · exact .inr (by simpa using hx)

/-! ## Secondary memory -/

/-- What a secondary write does (R147, R183). -/
theorem secWrite_cases (s : State) (a : Addr) (v : Byte) :
    (s.pageHit a = true ∧ secWrite s a v = s.setPageRam (s.pageRam.set (pageIndex s.pageBank a) v)) ∨
    (s.pageHit a = false ∧ secWrite s a v = s.setSecMem (s.secMem.set a.toNat v)) := by
  unfold secWrite
  cases h : s.pageHit a <;> simp

/-- The page window can be hit only in `EXT` (R182). -/
theorem pageHit_ext {s : State} {a : Addr} (h : s.pageHit a = true) :
    ∃ d e, s.cfg.ds = some d ∧ d.variant = .ext e ∧ s.pageEn = true ∧ a &&& 0xC000 = e.pageWindowBase := by
  unfold State.pageHit at h
  cases hd : s.cfg.ds with
  | none => simp [hd] at h
  | some d =>
    cases hv : d.variant with
    | base => simp [hd, DsParams.ext?, hv] at h
    | ext e => exact ⟨d, e, rfl, hv, by simpa [hd, DsParams.ext?, hv] using h⟩

/-! ## A step -/

/-- What a step can do: stay idle, or execute the decoded word that arrived. -/
theorem step_next_cases {s t : State} (h : step s = .next t) :
    (s.inputs = [] ∧ t = s) ∨
    ∃ w rest i, s.inputs = w :: rest ∧ decode s.cfg w = .ok i ∧ exec i (s.arrive rest) = .next t := by
  unfold step fetch at h
  cases hi : s.inputs with
  | nil => simp only [hi] at h; exact .inl ⟨rfl, by injection h with h; exact h.symm⟩
  | cons w rest =>
    simp only [hi] at h
    cases hd : decode s.cfg w with
    | error r => simp [hd] at h
    | ok i => exact .inr ⟨w, rest, i, rfl, hd, by simpa [hd] using h⟩

end Sys2Proof.Machine
end

