-- ==== Sys2Proof/Laws/PerInstr.lean ====
section
/-! SUPPORT. Families of statements with one lemma per operation. `AgentBit`: bit 27 of an operation's word tells the
secondary side (the CPU and its run control) from the host and the clock (30_encoding.md R60 to R62). -/

namespace Sys2Proof.Laws.AgentBit

/-- The kind of the canonical word has its top bit set exactly for the secondary side. -/
def Statement (i : Instr) : Prop :=
  ∀ (c : Config) (w : TxWord), encode c i = some w →
    ((txKind w).getLsbD 3 = true ↔ i.agent = .secondaryCpu ∨ i.agent = .runControl)

/-- The kind of a packed word decides. -/
theorem of_pack {i : Instr} {w : TxWord} {k : BitVec 4} {a : BitVec 16} {d : Byte} (h : txPack k a d = w)
    (hk : k.getLsbD 3 = true ↔ i.agent = .secondaryCpu ∨ i.agent = .runControl) :
    (txKind w).getLsbD 3 = true ↔ i.agent = .secondaryCpu ∨ i.agent = .runControl := by
  rw [← h, txKind_txPack]
  exact hk

theorem mrd (a : Addr) : Statement (.mrd a) := by
  intro c w h
  exact of_pack (Option.some.inj h) (by simp [Instr.agent])

theorem mwr (a : Addr) (v : Byte) : Statement (.mwr a v) := by
  intro c w h
  exact of_pack (Option.some.inj h) (by simp [Instr.agent])

theorem typerd (slot : Byte) : Statement (.typerd slot) := by
  intro c w h
  exact of_pack (Option.some.inj h) (by simp [Instr.agent])

theorem brrd (page : BitVec 2) (high : Byte) : Statement (.brrd page high) := by
  intro c w h
  exact of_pack (Option.some.inj h) (by simp [Instr.agent])

theorem iord (p : Port) : Statement (.iord p) := by
  intro c w h
  exact of_pack (Option.some.inj h) (by simp [Instr.agent])

theorem statwr (slot : Byte) (v : Byte) : Statement (.statwr slot v) := by
  intro c w h
  exact of_pack (Option.some.inj h) (by simp [Instr.agent])

theorem dsctl (high : Byte) (v : Byte) : Statement (.dsctl high v) := by
  intro c w h
  obtain ⟨_, _, h⟩ := Option.map_eq_some_iff.1 h
  exact of_pack h (by simp [Instr.agent])

theorem brwr (page : BitVec 2) (high : Byte) (v : Byte) : Statement (.brwr page high v) := by
  intro c w h
  exact of_pack (Option.some.inj h) (by simp [Instr.agent])

theorem iowr (p : Port) (v : Byte) : Statement (.iowr p v) := by
  intro c w h
  exact of_pack (Option.some.inj h) (by simp [Instr.agent])

theorem encpu : Statement .encpu := by
  intro c w h
  obtain ⟨_, _, h⟩ := Option.map_eq_some_iff.1 h
  exact of_pack h (by simp [Instr.agent])

theorem stopcpu : Statement .stopcpu := by
  intro c w h
  obtain ⟨_, _, h⟩ := Option.map_eq_some_iff.1 h
  exact of_pack h (by simp [Instr.agent])

theorem rstcpu : Statement .rstcpu := by
  intro c w h
  obtain ⟨_, _, h⟩ := Option.map_eq_some_iff.1 h
  exact of_pack h (by simp [Instr.agent])

theorem nmicpu : Statement .nmicpu := by
  intro c w h
  obtain ⟨_, _, h⟩ := Option.map_eq_some_iff.1 h
  exact of_pack h (by simp [Instr.agent])

theorem hreset : Statement .hreset := by
  intro c w h
  exact of_pack (Option.some.inj h) (by simp [Instr.agent])

theorem tick : Statement .tick := by
  intro c w h
  exact of_pack (Option.some.inj h) (by simp [Instr.agent])

theorem speedchg (k : KHz) : Statement (.speedchg k) := by
  intro c w h
  exact of_pack (Option.some.inj h) (by simp [Instr.agent])

theorem smrd (a : Addr) : Statement (.smrd a) := by
  intro c w h
  exact of_pack (Option.some.inj h) (by simp [Instr.agent])

theorem smwr (a : Addr) (v : Byte) : Statement (.smwr a v) := by
  intro c w h
  exact of_pack (Option.some.inj h) (by simp [Instr.agent])

theorem siord (p : Port) : Statement (.siord p) := by
  intro c w h
  exact of_pack (Option.some.inj h) (by simp [Instr.agent])

theorem drvsel (high : Byte) (v : Byte) : Statement (.drvsel high v) := by
  intro c w h
  obtain ⟨_, _, h⟩ := Option.map_eq_some_iff.1 h
  exact of_pack h (by simp [Instr.agent])

theorem gideact (p : Port) (v : Byte) : Statement (.gideact p v) := by
  intro c w h
  exact of_pack (Option.some.inj h) (by simp [Instr.agent])

theorem dmaact (p : Port) (v : Byte) : Statement (.dmaact p v) := by
  intro c w h
  exact of_pack (Option.some.inj h) (by simp [Instr.agent])

theorem pagewr (high : Byte) (v : Byte) : Statement (.pagewr high v) := by
  intro c w h
  obtain ⟨_, _, h⟩ := Option.map_eq_some_iff.1 h
  exact of_pack h (by simp [Instr.agent])

theorem siowr (p : Port) (v : Byte) : Statement (.siowr p v) := by
  intro c w h
  exact of_pack (Option.some.inj h) (by simp [Instr.agent])

theorem loopenter : Statement .loopenter := by
  intro c w h
  exact of_pack (Option.some.inj h) (by simp [Instr.agent])

theorem wexit : Statement .wexit := by
  intro c w h
  exact of_pack (Option.some.inj h) (by simp [Instr.agent])

theorem sfault : Statement .sfault := by
  intro c w h
  exact of_pack (Option.some.inj h) (by simp [Instr.agent])

end Sys2Proof.Laws.AgentBit
end

