-- ==== Sys2Proof/Tests/Slice0.lean ====
section
/-! SUPPORT. Tests of the model. Words and expected results are those of 95_test_vectors.md under its configuration CFG-T
(`EXT` variant where it says so), worked there from the rules; `witness_<statement>` theorems give a state that meets a
statement's hypotheses. -/

namespace Sys2Proof.Tests

open Sys2Proof.Machine

/-! ## Helpers -/

/-- CFG-T in its `BASE` variant. -/
def baseDs : DsParams := { cfgTDs with variant := .base, romAlignMask := 0xE000 }

/-- A configuration with the given disk station. -/
def withStation (d : DsParams) : Config := { Config.cfgT with ds := some d }

/-- CFG-T without a disk station. -/
def bareConfig : Config := { Config.cfgT with ds := none }

/-- The reset state with the given status bytes for slots of CFG-T. -/
def withStatus (l : List (Byte × Byte)) : State :=
  State.reset.setMods (l.foldl (fun ms p => setSlotStatus ms p.1 p.2) State.reset.mods)

/-- The reset state under another disk station. -/
def withDsParams (d : DsParams) : State := { State.reset with cfg := withStation d }

/-- The reset state in a lifecycle state. -/
def inLifecycle (l : RunLevel) (w c : Bool) : State :=
  { State.reset with runLevel := l, workerLive := w, coldPending := c }

/-- The disk station connected, one byte of the secondary memory written. -/
def connected : State := (withStatus [(0xFC, 0x04)]).setSecMem (Memory.unwritten.set 0xFC12 0x3E)

/-- Module A enabled, writable at `0x8000`, its first byte `0x11`. -/
def ramA : State :=
  (withStatus [(0x08, 0x83)]).setMods ((withStatus [(0x08, 0x83)]).mods.map fun m =>
    if m.params.slotId = 0x08 then { m with store := m.store.set 0 0x11 } else m)

/-- Module B enabled, writable at `0x8000`, its last byte `0x33`; A, installed before it, disabled. -/
def ramB : State :=
  (withStatus [(0x0C, 0x83)]).setMods ((withStatus [(0x0C, 0x83)]).mods.map fun m =>
    if m.params.slotId = 0x0C then { m with store := m.store.set 0x3FFF 0x33 } else m)

/-- S2 of the vectors: A enabled and write-protected, B enabled and writable, both at `0x8000`. -/
def masked : State := withStatus [(0x08, 0x81), (0x0C, 0x83)]

/-- A property of the next state. -/
def nextSat (o : Host.Outcome State Fault Refusal) (p : State → Bool) : Bool :=
  match o with
  | .next t => p t
  | .fault _ => false
  | .refused _ => false

/-- The reason a step is refused. -/
def refusal (o : Host.Outcome State Fault Refusal) : Option Refusal :=
  match o with
  | .next _ => none
  | .fault _ => none
  | .refused r => some r

/-- What decoding under a configuration answers. -/
def decoded (c : Config) (w : TxWord) : Option Instr := (decode c w).toOption

/-! ## WellFormed: each check refuses an ill-formed term (R5, table 4.2 and 4.3) -/

theorem test_wf_cfgT : Config.cfgT.admits cfgTMods = true := by decide
theorem test_wf_base : (withStation baseDs).admits cfgTMods = true := by decide
theorem test_wf_records : (rom8.wf && ram16.wf && seg128.wf && ram32.wf && ram64.wf) = true := by decide
theorem test_wf_alignMask : ({ rom8 with alignMask := 0xF000 } : Decoder).wf = false := by decide
theorem test_wf_storeNotPower : ({ ram16 with storeSize := 0x6000 } : Decoder).wf = false := by decide
theorem test_wf_storeBelowWindow : ({ ram16 with storeSize := 0x2000 } : Decoder).wf = false := by decide
theorem test_wf_segShift : ({ seg128 with segShift := 17 } : Decoder).wf = false := by decide
theorem test_wf_storeMaskRange : ({ seg128 with storeMask := 0x3C000 } : Decoder).wf = false := by decide
theorem test_wf_storeMaskInWindow : ({ seg128 with storeMask := 0x1E000 } : Decoder).wf = false := by decide
theorem test_wf_imageOrder :
    (ModuleParams.mk 0x14 0x33 true 0 (.rom rom8 [(1, 0), (0, 0)])).wf = false := by decide
theorem test_wf_imageRange : (ModuleParams.mk 0x14 0x33 true 0 (.rom rom8 [(0x2000, 0)])).wf = false := by decide
theorem test_wf_ramDecoder :
    (ModuleParams.mk 0x14 0x33 true 0 (.ram { ram16 with segShift := 17 } 1)).wf = false := by decide
theorem test_wf_ctrlPort : ({ baseDs with ctrlPort := 0xF3 } : DsParams).wf = false := by decide
theorem test_wf_romAlign : ({ baseDs with romAlignMask := 0xF000 } : DsParams).wf = false := by decide
theorem test_wf_dsImage : ({ baseDs with romImage := [(0x2000, 0)] } : DsParams).wf = false := by decide
theorem test_wf_dsImageOrder : ({ baseDs with romImage := [(1, 0), (1, 0)] } : DsParams).wf = false := by decide
theorem test_wf_edgeOrderLength : edgeOrderWf [.enable, .stop, .reset] = false := by decide
theorem test_wf_edgeOrderRepeat : edgeOrderWf [.enable, .stop, .reset, .reset] = false := by decide
theorem test_wf_edgeOrder :
    ({ baseDs with edgeOrder := [.stop, .stop, .reset, .nmi] } : DsParams).wf = false := by decide
theorem test_wf_gideAbsent : ({ baseDs with gidePresent := false } : DsParams).wf = false := by decide
theorem test_wf_gideDrvsel : ({ baseDs with gideActPorts := [0xF8] } : DsParams).wf = false := by decide
theorem test_wf_speedInit : ({ baseDs with speedInit := 0 } : DsParams).wf = false := by decide
theorem test_wf_fixedSpeed : ({ baseDs with fixedSpeed := some 0 } : DsParams).wf = false := by decide
theorem test_wf_bankShiftLow : cfgTDs.extWf { cfgTExt with bankShift := 8 } = false := by decide
theorem test_wf_bankShiftHigh : cfgTDs.extWf { cfgTExt with bankShift := 16 } = false := by decide
theorem test_wf_bankShiftEnds :
    (cfgTDs.extWf { cfgTExt with bankShift := 9 } && cfgTDs.extWf { cfgTExt with bankShift := 15 }) = true := by decide
theorem test_wf_pageBase : cfgTDs.extWf { cfgTExt with pageWindowBase := 0x2000 } = false := by decide
theorem test_wf_speedA : cfgTDs.extWf { cfgTExt with speedA := 0 } = false := by decide
theorem test_wf_speedB : cfgTDs.extWf { cfgTExt with speedB := 0 } = false := by decide
theorem test_wf_clkBit : cfgTDs.extWf { cfgTExt with clkBit := 3 } = false := by decide
theorem test_wf_dmaDrvsel : cfgTDs.extWf { cfgTExt with dmaActPorts := [0xF8] } = false := by decide
theorem test_wf_dmaGide : cfgTDs.extWf { cfgTExt with dmaActPorts := [0x05] } = false := by decide
theorem test_wf_pageDrvsel : cfgTDs.extWf { cfgTExt with pagePort := 0xF8 } = false := by decide
theorem test_wf_pageGide : cfgTDs.extWf { cfgTExt with pagePort := 0x05 } = false := by decide
theorem test_wf_pageDma : cfgTDs.extWf { cfgTExt with pagePort := 0xE0 } = false := by decide
theorem test_wf_statusPort : ({ Config.cfgT with statusPort := 0xF0 } : Config).wf = false := by decide
theorem test_wf_statusCtrl : ({ Config.cfgT with statusPort := 0xF4 } : Config).wf = false := by decide
theorem test_wf_slotTwice : slotsDistinct [cfgTMods[0], cfgTMods[0]] = false := by decide
theorem test_wf_dsMissing : Config.cfgT.dsModulesWf (cfgTMods.take 5) = false := by decide
theorem test_wf_dsTwice : Config.cfgT.dsModulesWf (cfgTMods ++ [cfgTMods[5]]) = false := by decide
theorem test_wf_dsAbsent : bareConfig.dsModulesWf cfgTMods = false := by decide
theorem test_wf_dsSlot : Config.cfgT.dsModulesWf [{ cfgTMods[5] with slotId := 0xEF }] = false := by decide
theorem test_wf_dsInitConnected : Config.cfgT.dsModulesWf [{ cfgTMods[5] with initStatus := 0x04 }] = false := by decide
theorem test_wf_admits_module :
    Config.cfgT.admits (ModuleParams.mk 0x20 0 true 0 (.ram { ram16 with segShift := 17 } 1) :: cfgTMods) = false := by
  decide
theorem test_wf_admits_slots : Config.cfgT.admits (cfgTMods[0] :: cfgTMods) = false := by decide
theorem test_wf_instr_general :
    [Instr.iord 0x0880, .iord 0x12F0, .iowr 0x0880 0, .iowr 0x00F4 0, .iowr 0x00F0 0, .speedchg 0, .gideact 0x0006 0,
      .dmaact 0x0005 0, .siowr 0x00F8 0, .siowr 0x0005 0, .siowr 0x00E0 0, .siowr 0x00EC 0].all
      (fun i => !(i.wellFormed Config.cfgT)) = true := by decide
theorem test_wf_instr_noStation :
    [Instr.brrd 0 0, .dsctl 0 0, .brwr 0 0 0, .encpu, .stopcpu, .rstcpu, .nmicpu, .tick, .speedchg 1, .smrd 0, .smwr 0 0,
      .siord 0, .drvsel 0 0, .gideact 0x0005 0, .dmaact 0x00E0 0, .pagewr 0 0, .siowr 0x1234 0, .loopenter, .wexit,
      .sfault].all (fun i => !(i.wellFormed bareConfig)) = true := by decide
theorem test_wf_instr_base :
    ((Instr.dmaact 0x00E0 0).wellFormed (withStation baseDs) || (Instr.pagewr 0 0).wellFormed (withStation baseDs)) =
      false := by decide

/-! ## Decoding: words written out from the encodings of 30_encoding.md (the vectors of 95_test_vectors.md) -/

theorem test_decode_mrd : decoded .cfgT 0x0BFFF00 = some (.mrd 0xBFFF) := by decide
theorem test_decode_mwr : decoded .cfgT 0x1E00055 = some (.mwr 0xE000 0x55) := by decide
theorem test_decode_typerd : decoded .cfgT 0x2FC8000 = some (.typerd 0xFC) := by decide
theorem test_decode_brrd : decoded .cfgT 0x2FFF300 = some (.brrd 3 0xFF) := by decide
theorem test_decode_iord : decoded .cfgT 0x2123400 = some (.iord 0x1234) := by decide
theorem test_decode_statwr : decoded .cfgT 0x30C8083 = some (.statwr 0x0C 0x83) := by decide
theorem test_decode_dsctl : decoded .cfgT 0x300F405 = some (.dsctl 0x00 0x05) := by decide
theorem test_decode_brwr : decoded .cfgT 0x312F03E = some (.brwr 0 0x12 0x3E) := by decide
theorem test_decode_iowr : decoded .cfgT 0x3123456 = some (.iowr 0x1234 0x56) := by decide
theorem test_decode_encpu : (decodeEdges cfgTDs.edgeOrder 0x0 0x01).map CtrlBit.action = [.encpu] := by decide
theorem test_decode_stopcpu : (decodeEdges cfgTDs.edgeOrder 0x1 0x02).map CtrlBit.action = [.stopcpu] := by decide
theorem test_decode_rstcpu : (decodeEdges cfgTDs.edgeOrder 0x1 0x05).map CtrlBit.action = [.rstcpu] := by decide
theorem test_decode_nmicpu : (decodeEdges cfgTDs.edgeOrder 0x5 0x09).map CtrlBit.action = [.nmicpu] := by decide
theorem test_decode_hreset : decoded .cfgT 0x4000000 = some .hreset := by decide
theorem test_decode_tick : decoded .cfgT 0x5000000 = some .tick := by decide
theorem test_decode_speedchg : decoded .cfgT 0x6000300 = some (.speedchg 3) := by decide
theorem test_decode_smrd : decoded .cfgT 0x8FBFF00 = some (.smrd 0xFBFF) := by decide
theorem test_decode_smwr : decoded .cfgT 0x9FFFFA5 = some (.smwr 0xFFFF 0xA5) := by decide
theorem test_decode_siord : decoded .cfgT 0xA001000 = some (.siord 0x0010) := by decide
theorem test_decode_drvsel : decoded .cfgT 0xB00F80C = some (.drvsel 0x00 0x0C) := by decide
theorem test_decode_gideact : decoded .cfgT 0xB0005EF = some (.gideact 0x0005 0xEF) := by decide
theorem test_decode_dmaact : decoded .cfgT 0xB00E000 = some (.dmaact 0x00E0 0x00) := by decide
theorem test_decode_pagewr : decoded .cfgT 0xB00EC86 = some (.pagewr 0x00 0x86) := by decide
theorem test_decode_siowr : decoded .cfgT 0xB001077 = some (.siowr 0x0010 0x77) := by decide
theorem test_decode_loopenter : decoded .cfgT 0xC000000 = some .loopenter := by decide
theorem test_decode_wexit : decoded .cfgT 0xD000000 = some .wexit := by decide
theorem test_decode_sfault : decoded .cfgT 0xE000000 = some .sfault := by decide
/-- R67, and R65 without the `EXT` ports. -/
theorem test_decode_refused :
    [decoded .cfgT 0x7000000, decoded .cfgT 0xF000000, decoded .cfgT 0x6000000, decoded bareConfig 0x8000000] =
      [none, none, none, none] := by decide
theorem test_decode_base_ports :
    (decoded (withStation baseDs) 0xB00E000, decoded (withStation baseDs) 0xB00EC85) =
      (some (.siowr 0x00E0 0x00), some (.siowr 0x00EC 0x85)) := by decide
theorem test_encode_words :
    [encode .cfgT .encpu, encode .cfgT .nmicpu, encode .cfgT (.pagewr 0 0x85), encode .cfgT (.statwr 0x08 0x81)] =
      [some 0x300F401, some 0x300F408, some 0xB00EC85, some 0x3088081] := by decide

/-! ## Window arithmetic (tables 2.1 and 2.2) -/

theorem test_base_5D :
    (rom8.baseAddress 0x7F, ram16.baseAddress 0x7F, ram32.baseAddress 0xC1, ram64.baseAddress 0xFF) =
      (0x6000, 0x4000, 0x8000, 0) := by decide
theorem test_segment_5D : (seg128.segmentMask 0x5D, ram16.segmentMask 0x5D) = (0x1C000, 0) := by decide
theorem test_index_5F :
    (seg128.index 0x5F 0x7FFF, seg128.index 0x47 0x4000, seg128.index 0xFF 0xFFFF) = (0x1FFFF, 0x4000, 0x1FFFF) := by
  decide
theorem test_window_ends :
    (seg128.inWindow 0x43 0x3FFF, seg128.inWindow 0x43 0x4000, seg128.inWindow 0x43 0x7FFF, seg128.inWindow 0x43 0x8000,
      seg128.inWindow 0xFF 0xFFFF) = (false, true, true, false, true) := by decide
theorem test_ext_banks :
    (cfgTDs.romDecoder.segmentMask 0x85, cfgTDs.romDecoder.segmentMask 0x8D, cfgTDs.romDecoder.segmentMask 0x95,
      cfgTDs.romDecoder.segmentMask 0x9D) = (0, 0x8000, 0x10000, 0x18000) := by decide

/-! ## One step per operation -/

theorem test_mrd_unclaimed :
    nextSat (exec (.mrd 0xC000) State.reset) (fun t => t.answer == .hostRead false 0xFF) = true := by decide
theorem test_mrd_ram : nextSat (exec (.mrd 0x8000) ramA) (fun t => t.answer == .hostRead true 0x11) = true := by decide
/-- S2: blocked by A, and B's store is unchanged. -/
theorem test_mwr_masked :
    nextSat (exec (.mwr 0xBFFF 0x22) masked)
      (fun t => t.answer == .hostWrite .handledBlocked && t.mods == masked.mods) = true := by decide
theorem test_mwr_ram :
    nextSat (exec (.mwr 0xBFFF 0x22) ramA)
      (fun t => t.answer == .hostWrite .handledWritten && t.mods[0]?.map (·.store.cells) == some [(0, 0x11), (0x3FFF, 0x22)])
      = true := by decide
theorem test_typerd_empty :
    nextSat (exec (.typerd 0x04) State.reset) (fun t => t.answer == .hostRead false 0xFF) = true := by decide
theorem test_typerd_station :
    nextSat (exec (.typerd 0xFC) State.reset) (fun t => t.answer == .hostRead true 0xA7) = true := by decide
theorem test_brrd_disconnected :
    nextSat (exec (.brrd 0 0x12) State.reset) (fun t => t.answer == .hostRead false 0xFF) = true := by decide
/-- S3: port `0x12F0` is secondary address `0xFC12`. -/
theorem test_brrd_connected :
    nextSat (exec (.brrd 0 0x12) connected) (fun t => t.answer == .hostRead true 0x3E) = true := by decide
theorem test_iord_unclaimed :
    nextSat (exec (.iord 0x1234) connected) (fun t => t.answer == .hostRead false 0xFF) = true := by decide
theorem test_statwr_notSwitchable :
    nextSat (exec (.statwr 0x18 0x00) State.reset)
      (fun t => t.answer == .hostWrite .handledBlocked && t.mods == State.reset.mods) = true := by decide
theorem test_statwr_keepsStore :
    nextSat (exec (.statwr 0x08 0x80) ramA)
      (fun t => t.mods[0]?.map (fun m => (m.status, m.enabled, m.store.get 0)) == some (0x80, false, some 0x11)) = true := by
  decide
/-- P4 step 14 with a lit indicator: `ENCPU`, then the clock-rate bit, `ceil(100 * 8000 / 4000) = 200`. -/
theorem test_dsctl_clock :
    nextSat (exec (.dsctl 0 0x11) (State.reset.setGideGlow 100))
      (fun t => t.lifecycle == (.startingUp, true, true) && t.clkSel && t.latch == 1 && t.speedKHz == 8000
        && t.gideGlow == 200 && t.events == [.secSpeed 8000]) = true := by decide
/-- S10: a held bit does nothing. -/
theorem test_dsctl_held :
    nextSat (exec (.dsctl 0 0x09) ((inLifecycle .running true false).setLatch 0x9))
      (fun t => t.events == [] && t.latch == 0x9 && t.lifecycle == (.running, true, false)) = true := by decide
theorem test_brwr_top :
    nextSat (exec (.brwr 3 0xFF 0xA5) connected)
      (fun t => t.secMem.get 0xFFFF == some 0xA5 && t.answer == .hostWrite .handledWritten) = true := by decide
theorem test_brwr_disconnected :
    nextSat (exec (.brwr 0 0x00 0xC3) State.reset)
      (fun t => t.secMem == State.reset.secMem && t.answer == .hostWrite .notHandled) = true := by decide
theorem test_iowr_unclaimed :
    nextSat (exec (.iowr 0x1234 0x56) connected) (fun t => t.answer == .hostWrite .notHandled) = true := by decide
theorem test_encpu_starts :
    nextSat (exec .encpu State.reset) (fun t => t.lifecycle == (.startingUp, true, true)) = true := by decide
theorem test_encpu_idempotent :
    nextSat (exec .encpu (inLifecycle .down true false)) (fun t => t.lifecycle == (.down, true, false)) = true := by decide
theorem test_stopcpu :
    nextSat (exec .stopcpu (inLifecycle .startingUp true true)) (fun t => t.lifecycle == (.down, true, true)) = true := by
  decide
theorem test_rstcpu :
    nextSat (exec .rstcpu (inLifecycle .running true false)) (fun t => t.lifecycle == (.startingUp, true, false)) = true := by
  decide
theorem test_rstcpu_dropped :
    nextSat (exec .rstcpu (inLifecycle .down true false)) (fun t => t.lifecycle == (.down, true, false)) = true := by decide
theorem test_nmicpu :
    nextSat (exec .nmicpu (inLifecycle .running true false)) (fun t => t.events == [.secNmi]) = true := by decide
theorem test_nmicpu_dropped :
    nextSat (exec .nmicpu (inLifecycle .startingUp true false)) (fun t => t.events == []) = true := by decide
theorem test_hreset :
    nextSat (exec .hreset (((connected.setLatch 0x9).setRunLevel .running).setWorkerLive true))
      (fun t => t.mods == State.reset.mods && t.latch == 0 && t.lifecycle == (.running, true, false)) = true := by decide
theorem test_hreset_stops :
    nextSat (exec .hreset { inLifecycle .running true false with
      cfg := withStation { cfgTDs with hostResetStops := true } }) (fun t => t.runLevel == .down && t.workerLive) = true := by
  decide
/-- P3 steps 7 and 10: the wrap of the prescaler, then the expiry. -/
theorem test_tick_wrap :
    nextSat (exec .tick ((State.reset.setDiv8 7).setGideGlow 1))
      (fun t => t.div8 == 0 && t.gideGlow == 0 && t.events == [.ctc0Pulse, .dirty .gide]) = true := by decide
theorem test_tick_dark :
    nextSat (exec .tick State.reset) (fun t => t.div8 == 1 && t.gideGlow == 0 && t.dmaGlow == 0 && t.events == []) = true := by
  decide
/-- P3 step 16: `ceil(100 * 3 / 2) = 150`. -/
theorem test_speedchg :
    nextSat (exec (.speedchg 3) ((State.reset.setSpeed 2).setGideGlow 100))
      (fun t => t.speedKHz == 3 && t.gideGlow == 150 && t.dmaGlow == 0) = true := by decide
theorem test_speedchg_ceil :
    nextSat (exec (.speedchg 2) ((State.reset.setSpeed 3).setDmaGlow 1)) (fun t => t.dmaGlow == 1) = true := by decide
theorem test_smrd :
    nextSat (exec (.smrd 0xFC12) connected) (fun t => t.answer == .secRead 0x3E) = true := by decide
/-- P4 step 24: bank 5 through the page window. -/
theorem test_smrd_paged :
    nextSat (exec (.smrd 0x4000) ((State.reset.setPage true 5).setPageRam (Memory.unwritten.set 0x14000 0x55)))
      (fun t => t.answer == .secRead 0x55) = true := by decide
theorem test_smwr_paged :
    nextSat (exec (.smwr 0x7FFF 0x56) (State.reset.setPage true 5))
      (fun t => t.pageRam.cells == [(0x17FFF, 0x56)] && t.secMem == State.reset.secMem) = true := by decide
theorem test_smwr_beside :
    nextSat (exec (.smwr 0x8000 0x02) (State.reset.setPage true 5))
      (fun t => t.secMem.cells == [(0x8000, 0x02)] && t.pageRam == State.reset.pageRam) = true := by decide
theorem test_siord :
    nextSat (exec (.siord 0x1234) State.reset) (fun t => t.events == [.chipIoRead 0x1234]) = true := by decide
theorem test_siowr :
    nextSat (exec (.siowr 0x0010 0x77) State.reset) (fun t => t.events == [.chipIoWrite 0x0010 0x77]) = true := by decide
/-- P3 steps 3 and 4. -/
theorem test_drvsel :
    nextSat (exec (.drvsel 0x00 0x0C) State.reset)
      (fun t => t.driveMask == 0xC && t.driveSelect == some 2 && t.events == [.chipIoWrite 0x00F8 0x0C]) = true := by decide
theorem test_drvsel_none :
    nextSat (exec (.drvsel 0x00 0xF0) State.reset) (fun t => t.driveMask == 0 && t.driveSelect == none) = true := by decide
theorem test_gideact :
    nextSat (exec (.gideact 0x0005 0x00) State.reset)
      (fun t => t.gideGlow == 400000 && t.events == [.dirty .gide, .chipIoWrite 0x0005 0x00]) = true := by decide
theorem test_gideact_reload :
    nextSat (exec (.gideact 0x0005 0x00) ((State.reset.setSpeed 2).setGideGlow 150))
      (fun t => t.gideGlow == 200 && t.events == [.chipIoWrite 0x0005 0x00]) = true := by decide
/-- P4 step 35: not forwarded. -/
theorem test_dmaact :
    nextSat (exec (.dmaact 0x00E0 0x00) (State.reset.setSpeed 8000))
      (fun t => t.dmaGlow == 800000 && t.events == [.dirty .dma]) = true := by decide
theorem test_pagewr :
    nextSat (exec (.pagewr 0x00 0x85) State.reset)
      (fun t => t.pageEn && t.pageBank == 5 && t.events == [.chipIoWrite 0x00EC 0x85]) = true := by decide
theorem test_pagewr_layoutB :
    nextSat (exec (.pagewr 0x00 0x85) (withDsParams { cfgTDs with variant := .ext { cfgTExt with pageLayout := .B } }))
      (fun t => t.pageEn && t.pageBank == 0x42) = true := by decide
/-- S8: the last cleared byte and the first that is kept; the vector is the configuration's (log 19). -/
theorem test_loopenter_cold :
    nextSat (exec .loopenter { inLifecycle .startingUp true true with secMem := Memory.unwritten.set 0xFC00 0xC3 })
      (fun t => t.lifecycle == (.running, true, false) && t.secMem.get 0xFBFF == some 0 && t.secMem.get 0xFC00 == some 0xC3
        && t.secMem.get 0xFC01 == none && t.events == [.secReset cfgTDs.resetVector]) = true := by decide
theorem test_loopenter_warm :
    nextSat (exec .loopenter { inLifecycle .startingUp true false with secMem := Memory.unwritten.set 0x1000 0x77 })
      (fun t => t.secMem.get 0x1000 == some 0x77 && t.secMem.get 0x1001 == none) = true := by decide
theorem test_wexit :
    nextSat (exec .wexit (inLifecycle .down true true)) (fun t => t.lifecycle == (.down, false, false)) = true := by decide
theorem test_wexit_notEnabled : refusal (exec .wexit State.reset) = some (.notEnabled "WEXIT") := by decide
theorem test_sfault :
    nextSat (exec .sfault (inLifecycle .running true false))
      (fun t => t.lifecycle == (.startingUp, true, false) && t.events == [.errorReport .secondaryFault]) = true := by decide
/-- P5 step 17: a fault while stopping does not override the stop. -/
theorem test_sfault_stopping :
    nextSat (exec .sfault (inLifecycle .down true false))
      (fun t => t.lifecycle == (.down, true, false) && t.events == [.errorReport .secondaryFault]) = true := by decide
theorem test_step_refused : refusal (step (State.reset.withFetchWord 32 0x7000000)) = some (.undecodable .reservedKind) := by
  decide

/-! ## Witnesses: a state that meets the hypotheses of each statement that has some, one for each clause -/

/-- The disk-station module of a state over CFG-T, the modules before it, and those after it. -/
def station (s : State) : Module := s.mods[5]?.getD (Module.construct cfgTMods[5])
def beforeStation (s : State) : List Module := s.mods.take 5

theorem witness_DecodeInvertsEncode :
    Config.cfgT.wf = true ∧ bareConfig.wf = true ∧
    [Instr.mrd 0xFFFF, .mwr 0 0xFF, .typerd 0xFC, .brrd 3 0xFF, .iord 0xFFFF, .statwr 0x08 0xFF, .dsctl 0xFF 0x1F,
      .brwr 0 0 0, .iowr 0xFFFF 0xFF, .hreset, .tick, .speedchg 1, .speedchg 0xFFFF, .smrd 0, .smwr 0xFFFF 0xFF, .siord 0,
      .drvsel 0xFF 0xFF, .gideact 0xFF05 0xFF, .dmaact 0xFFE0 0, .pagewr 0xFF 0x80, .siowr 0xFFFF 0xFF, .loopenter,
      .wexit, .sfault].all (fun i => i.wellFormed Config.cfgT && i.isTransaction) = true ∧
    (Instr.iowr 0x00F4 0).wellFormed bareConfig = true := by decide

theorem witness_DecodedOperationsAreWellFormed :
    decode Config.cfgT 0xB12EC85 = .ok (.pagewr 0x12 0x85) ∧ decode bareConfig 0x300F485 = .ok (.iowr 0x00F4 0x85) := by
  decide

theorem witness_DecoderRefusesExactlyReservedWords :
    decode Config.cfgT 0x7FFFFFF = .error .reservedKind ∧ decode bareConfig 0xF000000 = .error .reservedKind ∧
    decode bareConfig 0x5000000 = .error .noDiskStation ∧ decode bareConfig 0xE000000 = .error .noDiskStation ∧
    decode Config.cfgT 0x60000FF = .error .zeroSpeed ∧
    ({ State.reset with cfg := bareConfig } : State).cfg.ds = none ∧ (Instr.sfault).agent ≠ .host := by decide

theorem witness_StepRunsDecodedOperation :
    (State.reset.withFetchWord 32 0x4000000).inputs = [0x4000000] ∧ decode State.reset.cfg 0x4000000 = .ok .hreset ∧
    (State.reset.withFetchWord 32 0xF000000).inputs = [0xF000000] ∧
    decode State.reset.cfg 0xF000000 = .error .reservedKind ∧ State.reset.inputs = [] := by decide

theorem witness_HostTransactionsAlwaysComplete :
    (State.reset.withFetchWord 32 0x4FFFFFF).inputs = [0x4FFFFFF] ∧ (txKind 0x4FFFFFF).toNat < 5 := by decide

theorem witness_MemoryReadFirstClaimAnswers :
    (ramB.mods = ramB.mods.take 1 ++ ramB.mods[1] :: ramB.mods.drop 2 ∧
      (∀ x ∈ ramB.mods.take 1, x.readMem ramB.cfg 0xBFFF = none) ∧
      ramB.mods[1].readMem ramB.cfg 0xBFFF = some 0x33) ∧
    ∀ x ∈ ramB.mods, x.readMem ramB.cfg 0xC000 = none := by decide

theorem witness_MemoryWriteStopsAtFirstClaim :
    (ramB.mods = ramB.mods.take 1 ++ ramB.mods[1] :: ramB.mods.drop 2 ∧
      (∀ x ∈ ramB.mods.take 1, (x.writeMem ramB.cfg 0x8000 0x22).1 = .notHandled) ∧
      (ramB.mods[1].writeMem ramB.cfg 0x8000 0x22).1 = .handledWritten) ∧
    (masked.mods[0].writeMem masked.cfg 0x8000 0x22).1 = .handledBlocked ∧
    ∀ x ∈ ramB.mods, (x.writeMem ramB.cfg 0x7FFF 0x22).1 = .notHandled := by decide

theorem witness_WriteProtectedRamMasksLaterModules :
    masked.mods = [] ++ masked.mods[0] :: masked.mods.drop 1 ∧ masked.mods[0].params.kind = .ram ram16 1 ∧
    masked.mods[0].status.getLsbD 0 = true ∧ ram16.inWindow masked.mods[0].status 0xBFFF = true ∧
    masked.mods[0].status.getLsbD 1 = false ∧
    (withStatus [(0x0C, 0x81)]).mods[0].claimIndex Config.cfgT 0xBFFF = none := by decide

theorem witness_ClaimTestIsEnableAndWindow :
    masked.mods[0].decoder? masked.cfg = some ram16 ∧ masked.mods[0].params.kind = .ram ram16 1 ∧
    (Module.construct (ModuleParams.mk 0x20 0 true 0 .peripheral)).decoder? Config.cfgT = none := by decide

theorem witness_RamReadsAndWritesItsStore :
    (ramB.mods[1].params.kind = .ram ram16 1 ∧ ramB.mods[1].status.getLsbD 0 = true ∧
      ram16.inWindow ramB.mods[1].status 0xBFFF = true ∧ ramB.mods[1].status.getLsbD 1 = true) ∧
    masked.mods[0].status.getLsbD 1 = false := by decide

/-- A slot's ROM, and the disk station's in each variant: `EXT` at `0x8000..0xFFFF` and disabled, `BASE` at
`0x8000..0x9FFF`. -/
theorem witness_RomReadsImageAndNeverChanges :
    State.reset.mods[4].params.kind = .rom rom8 [] ∧ State.reset.mods[4].status.getLsbD 0 = true ∧
    rom8.inWindow State.reset.mods[4].status 0xE000 = true ∧ rom8.inWindow State.reset.mods[4].status 0xFFFF = true ∧
    rom8.inWindow State.reset.mods[4].status 0xDFFF = false ∧ State.reset.mods[3].status.getLsbD 0 = false ∧
    (station (withStatus [(0xFC, 0x85)])).params.kind = .ds ∧
    (station (withStatus [(0xFC, 0x85)])).status.getLsbD 0 = true ∧
    (withStatus [(0xFC, 0x85)]).cfg.ds = some cfgTDs ∧ cfgTDs.variant = .ext cfgTExt ∧
    cfgTDs.romDecoder.inWindow 0x85 0x8000 = true ∧ cfgTDs.romDecoder.inWindow 0x85 0xFFFF = true ∧
    cfgTDs.romDecoder.inWindow 0x85 0x7FFF = false ∧ (station State.reset).status.getLsbD 0 = false ∧
    (withStation baseDs).ds = some baseDs ∧ baseDs.variant = .base ∧ baseDs.wf = true ∧
    baseDs.romDecoder.inWindow 0x85 0x9FFF = true ∧ baseDs.romDecoder.inWindow 0x85 0xA000 = false := by decide

theorem witness_WindowIndexStaysInsideStore :
    seg128.wf = true ∧ seg128.inWindow 0xFF 0xFFFF = true ∧ seg128.inWindow 0x03 0x0000 = true := by decide

theorem witness_SegmentsNeverAlias :
    seg128.wf = true ∧ seg128.inWindow 0x47 0x4001 = true ∧ seg128.inWindow 0x87 0x8001 = true ∧
    seg128.index 0x47 0x4001 = seg128.index 0x87 0x8001 := by decide

theorem witness_ExtRomWindowHasFourBanks : cfgTDs.variant = .ext cfgTExt ∧ cfgTDs.wf = true := by decide

theorem witness_TypeReadAnswersSlot :
    slotsDistinct State.reset.modParams = true ∧ State.reset.mods[5] ∈ State.reset.mods ∧
    State.reset.mods[5].params.slotId = 0xFC ∧ ∀ m ∈ State.reset.mods, m.params.slotId ≠ 0x04 := by decide

theorem witness_StatusWriteReplacesOneStatusByte :
    slotsDistinct ramB.modParams = true ∧ (∀ m ∈ ramB.mods, m.params.slotId ≠ 0x04) ∧
    (ramB.mods = ramB.mods.take 1 ++ ramB.mods[1] :: ramB.mods.drop 2 ∧ ramB.mods[1].params.slotId = 0x0C ∧
      ramB.mods[1].params.switchable = true) ∧
    ramB.mods = ramB.mods.take 4 ++ ramB.mods[4] :: ramB.mods.drop 5 ∧ ramB.mods[4].params.slotId = 0x18 ∧
      ramB.mods[4].params.switchable = false := by decide

theorem witness_IoReadFirstClaimAnswers :
    (connected.mods = beforeStation connected ++ station connected :: [] ∧
      (∀ x ∈ beforeStation connected, x.readIO connected 0x12F0 = none) ∧
      (station connected).readIO connected 0x12F0 = some 0x3E) ∧
    (∀ x ∈ connected.mods, x.readIO connected 0x12F4 = none) ∧
    State.reset.mods[4].params.kind = .rom rom8 [] ∧ State.reset.mods[0].params.kind = .ram ram16 1 := by decide

theorem witness_IoWriteGeneralPortChangesNothing : (Instr.iowr 0x12F5 0x01).wellFormed State.reset.cfg = true := by
  decide

/-- `connected` with a peripheral module installed first. -/
def behindPeripheral : State :=
  connected.setMods (Module.construct (ModuleParams.mk 0x20 0 true 0 .peripheral) :: connected.mods)

/-- In `behindPeripheral` every module before the disk station claims no write of a port, or is the peripheral. -/
theorem behindPeripheral_claims {p : Port} (h : ∀ x ∈ beforeStation connected, x.claimIoWrite behindPeripheral p = none) :
    ∀ x ∈ behindPeripheral.mods.take 6, x.claimIoWrite behindPeripheral p = none ∨ x.params.kind = .peripheral := by
  have hm : behindPeripheral.mods.take 6 =
      Module.construct (ModuleParams.mk 0x20 0 true 0 .peripheral) :: beforeStation connected := by decide
  intro x hx
  rw [hm] at hx
  rcases List.mem_cons.1 hx with rfl | hx
  · exact .inr rfl
  · exact .inl (h x hx)

theorem witness_BehindPeripheral :
    behindPeripheral.cfg.wf = true ∧ behindPeripheral.cfg.ds = some cfgTDs ∧
    behindPeripheral.mods = behindPeripheral.mods.take 6 ++ station connected :: [] ∧
    (station connected).params.kind = .ds ∧ (station connected).status.getLsbD cfgTDs.connectBit.val = true ∧
    (∀ x ∈ behindPeripheral.mods.take 6, x.claimIoWrite behindPeripheral (mkPort 0x12 (bridgePort 0)) = none ∨
      x.params.kind = .peripheral) ∧
    (∀ x ∈ behindPeripheral.mods.take 6, x.claimIoWrite behindPeripheral (mkPort 0 cfgTDs.ctrlPort) = none ∨
      x.params.kind = .peripheral) :=
  ⟨by decide, by decide, by decide, by decide, by decide, behindPeripheral_claims (by decide),
    behindPeripheral_claims (by decide)⟩

theorem witness_BridgeReadAnswersSecondaryByte :
    connected.cfg.ds = some cfgTDs ∧ connected.mods = beforeStation connected ++ station connected :: [] ∧
    (station connected).params.kind = .ds ∧ (station connected).status.getLsbD cfgTDs.connectBit.val = true ∧
    ∀ x ∈ beforeStation connected, x.readIO connected (mkPort 0x12 (bridgePort 0)) = none := by decide

theorem witness_BridgeWriteStoresOneByte :
    connected.cfg.wf = true ∧ connected.cfg.ds = some cfgTDs ∧
    connected.mods = beforeStation connected ++ station connected :: [] ∧ (station connected).params.kind = .ds ∧
    (station connected).status.getLsbD cfgTDs.connectBit.val = true ∧
    ∀ x ∈ beforeStation connected, x.claimIoWrite connected (mkPort 0xFF (bridgePort 3)) = none := by decide

theorem witness_DisconnectedBridgeDoesNotExist :
    State.reset.cfg.wf = true ∧ State.reset.connected = false ∧ State.reset.mods[5].params.kind = .ds ∧
    (∀ m ∈ State.reset.mods, m.params.kind ≠ .peripheral) ∧
    nextSat (exec (.smrd 0xFFFF) State.reset) (fun _ => true) = true ∧
    nextSat (exec (.smwr 0xFFFF 0) State.reset) (fun _ => true) = true := by decide

theorem witness_ControlWriteRunsRisingActions :
    State.reset.cfg.ds = some cfgTDs ∧ State.reset.mods = beforeStation State.reset ++ station State.reset :: [] ∧
    (station State.reset).params.kind = .ds ∧ cfgTDs.ctrlNeedsConnect = false ∧
    (∀ x ∈ beforeStation State.reset, x.claimIoWrite State.reset (mkPort 0 cfgTDs.ctrlPort) = none) ∧
    (0x0F : Byte).getLsbD cfgTExt.clkBit.val = State.reset.clkSel ∧ cfgTDs.variant = .ext cfgTExt := by decide

/-- The same state with every low bit of the latch set: the byte `0x0F` raises none. -/
theorem witness_HeldControlBitsTriggerNothing :
    (State.reset.setLatch 0xF).cfg.ds = some cfgTDs ∧
    (State.reset.setLatch 0xF).mods = beforeStation State.reset ++ station State.reset :: [] ∧
    (station State.reset).params.kind = .ds ∧ cfgTDs.ctrlNeedsConnect = false ∧
    (∀ x ∈ beforeStation State.reset, x.claimIoWrite (State.reset.setLatch 0xF) (mkPort 0 cfgTDs.ctrlPort) = none) ∧
    (0x0F : Byte).getLsbD cfgTExt.clkBit.val = (State.reset.setLatch 0xF).clkSel ∧ cfgTDs.variant = .ext cfgTExt ∧
    ∀ k, k < 4 → (0x0F : Byte).getLsbD k = true → (State.reset.setLatch 0xF).latch.getLsbD k = true := by decide

/-- A station whose control port is gated by the connection. -/
def gatedDs : DsParams := { cfgTDs with ctrlNeedsConnect := true }

theorem witness_GatedControlWriteIsNotHandled :
    (withDsParams gatedDs).cfg.wf = true ∧ (withDsParams gatedDs).cfg.ds = some gatedDs ∧
    gatedDs.ctrlNeedsConnect = true ∧ (withDsParams gatedDs).connected = false ∧
    ∀ m ∈ (withDsParams gatedDs).mods, m.params.kind ≠ .peripheral := by decide

theorem witness_ClockBitSetsRate :
    State.reset.cfg.ds = some cfgTDs ∧ cfgTDs.variant = .ext cfgTExt ∧ cfgTDs.fixedSpeed = none ∧
    State.reset.mods = beforeStation State.reset ++ station State.reset :: [] ∧
    (station State.reset).params.kind = .ds ∧ cfgTDs.ctrlNeedsConnect = false ∧
    (∀ x ∈ beforeStation State.reset, x.claimIoWrite State.reset (mkPort 0 cfgTDs.ctrlPort) = none) ∧
    ((0x11 : Byte).getLsbD cfgTExt.clkBit.val ≠ State.reset.clkSel ∧ (0x11 : Byte).getLsbD 0 = true ∧
      State.reset.latch.getLsbD 0 = false ∧ cfgTDs.afterglow = .rescale ∧ State.reset.speedKHz ≠ 0 ∧ cfgTExt.speedB ≠ 0) ∧
    (0x01 : Byte).getLsbD cfgTExt.clkBit.val = State.reset.clkSel ∧
    (withDsParams { cfgTDs with afterglow := .keep }).cfg.ds = some { cfgTDs with afterglow := .keep } := by decide

/-- Lifecycle states for `EnableStartsOneWorker`, `StopSetsDown`, `ResetOnlyWhileRunning`, `NmiOnlyWhileRunning`. -/
theorem witness_ControlActions :
    (∀ b ∈ [CtrlBit.enable, .stop, .reset, .nmi], b ∈ cfgTDs.edgeOrder) ∧
    State.reset.cfg.ds = some cfgTDs ∧ State.reset.workerLive = false ∧ State.reset.runLevel ≠ .running ∧
    (inLifecycle .running true false).cfg.ds = some cfgTDs ∧ (inLifecycle .running true false).workerLive = true ∧
    (inLifecycle .running true false).runLevel = .running := by decide

/-- Lifecycle states for `LoopEntryClearsOnceAndRuns`, `WorkerExitOnlyWhenStopping`, `SecondaryFaultIsContained`,
`RecoveryKeepsMemory`. -/
theorem witness_RunControl :
    (inLifecycle .startingUp true true).cfg.ds = some cfgTDs ∧
    ((inLifecycle .startingUp true true).workerLive = true ∧ (inLifecycle .startingUp true true).runLevel = .startingUp ∧
      (inLifecycle .startingUp true true).coldPending = true) ∧
    (inLifecycle .startingUp true false).coldPending = false ∧
    ((inLifecycle .down true false).workerLive = true ∧ (inLifecycle .down true false).runLevel = .down ∧
      (inLifecycle .down true false).coldPending = false) ∧
    ((inLifecycle .running true false).workerLive = true ∧ (inLifecycle .running true false).coldPending = false ∧
      (inLifecycle .running true false).runLevel = .running) ∧
    ¬(State.reset.workerLive = true ∧ State.reset.runLevel = .startingUp) ∧
    ¬(State.reset.workerLive = true ∧ State.reset.runLevel = .down) ∧
    ¬(State.reset.workerLive = true ∧ State.reset.coldPending = false ∧
      (State.reset.runLevel = .running ∨ State.reset.runLevel = .down)) := by decide

theorem witness_EnableWhileStoppingIsLost :
    (inLifecycle .down true false).cfg.ds = some cfgTDs ∧ (inLifecycle .down true false).workerLive = true ∧
    (inLifecycle .down true false).runLevel = .down ∧ (inLifecycle .down true false).latch = 0 ∧
    (inLifecycle .down true false).cfg.admits (inLifecycle .down true false).modParams = true ∧
    cfgTDs.ctrlNeedsConnect = false ∧ ∀ m ∈ (inLifecycle .down true false).mods, m.params.kind ≠ .peripheral := by decide

theorem witness_BootKeepsBootstrapAndClearsRest :
    connected.cfg.ds = some cfgTDs ∧ connected.workerLive = false ∧ connected.latch.getLsbD 0 = false ∧
    connected.cfg.admits connected.modParams = true ∧ cfgTDs.ctrlNeedsConnect = false ∧
    ∀ m ∈ connected.mods, m.params.kind ≠ .peripheral := by decide

/-- The page window on and hit at both its ends, and missed beside it, for `SecondaryReadAnswersPageOrMemory` and
`SecondaryWriteStoresOneByte`. -/
theorem witness_SecondaryMemory :
    (State.reset.setPage true 5).cfg.ds = some cfgTDs ∧ cfgTDs.variant = .ext cfgTExt ∧
    (State.reset.setPage true 5).pageEn = true ∧ (0x4000 : Addr) &&& 0xC000 = cfgTExt.pageWindowBase ∧
    (0x7FFF : Addr) &&& 0xC000 = cfgTExt.pageWindowBase ∧
    ∀ e, cfgTDs.variant = .ext e → (State.reset.setPage true 5).pageEn = true →
      (0x3FFF : Addr) &&& 0xC000 ≠ e.pageWindowBase ∧ (0x8000 : Addr) &&& 0xC000 ≠ e.pageWindowBase := by
  refine ⟨by decide, by decide, by decide, by decide, by decide, ?_⟩
  intro e h _
  cases h
  decide

/-- For `SecondaryIoIsForwarded`, `DriveSelectTakesLowestBit`, `GideActivationLoadsCounter`, `DmaActivationLoadsCounter`,
`PageWriteSetsBothFields`, `TickAdvancesPrescalerAndCounters`, `SpeedChangeKeepsWallClockTime`: a station of each variant,
layout and afterglow mode. -/
theorem witness_SecondaryPorts :
    State.reset.cfg.ds = some cfgTDs ∧ cfgTDs.gidePresent = true ∧ cfgTDs.variant = .ext cfgTExt ∧
    State.reset.cfg.wf = true ∧ portLow 0x12E0 ∈ cfgTExt.dmaActPorts ∧
    cfgTExt.pageLayout = .A ∧ ({ cfgTExt with pageLayout := .B } : ExtParams).pageLayout = .B ∧
    (withDsParams baseDs).cfg.ds = some baseDs ∧ baseDs.variant = .base ∧
    State.reset.speedKHz ≠ 0 ∧ cfgTDs.afterglow = .rescale ∧
    (withDsParams { cfgTDs with afterglow := .keep }).cfg.ds = some { cfgTDs with afterglow := .keep } := by decide

theorem witness_HostReset :
    ({ State.reset with cfg := bareConfig } : State).cfg.ds = none ∧ connected.cfg.ds = some cfgTDs ∧
    connected.cfg.admits connected.modParams = true ∧ connected.connected = true := by decide

theorem witness_PowerUpGivesConstructionValues :
    Config.cfgT.admits cfgTMods = true ∧ Config.cfgT.admits [] = false ∧ Config.cfgT.ds = some cfgTDs ∧
    cfgTDs.fixedSpeed = none ∧ cfgTDs.variant = .ext cfgTExt ∧
    (withStation baseDs).admits cfgTMods = true ∧ (withStation baseDs).ds = some baseDs ∧ baseDs.fixedSpeed = none ∧
    baseDs.variant = .base ∧ (withStation { baseDs with fixedSpeed := some 2500 }).admits cfgTMods = true := by decide

/-- The invariant holds in the reset state, so `EveryStepKeepsInvariant` is not empty: a step from it answers. -/
theorem witness_EveryStepKeepsInvariant :
    State.reset.Inv ∧ (State.reset.withFetchWord 32 0x300F411).Inv ∧
    nextSat (step (State.reset.withFetchWord 32 0x300F411)) (fun t => t.speedKHz == 8000) = true := by
  have hd : ∀ d, Config.cfgT.ds = some d → glowOk d 0 4000 = true ∧ glowOk d 0 4000 = true := by
    intro d h
    cases h
    decide
  refine ⟨⟨by decide, by decide, by decide, by decide, by decide, by decide, by decide, by decide, hd, by decide⟩,
    ⟨by decide, by decide, by decide, by decide, by decide, by decide, by decide, by decide, hd, by decide⟩, by decide⟩

/-- For `StepKeepsConfigurationAndOrder`, `SecondarySideNeverWritesHostSide`, `HostNeverWritesSecondaryPrivateState`,
`SecondarySideIgnoresHostSide`, `LifecycleChangesOnlyByItsOperations`, `EventsComeFromTheirOperations`,
`ReadsHaveNoSideEffect`: executions that answer a next state, and change the lifecycle. -/
theorem witness_WholeMachine :
    nextSat (step (State.reset.withFetchWord 32 0x5000000)) (fun t => t.arrivals == 1) = true ∧
    (Instr.smwr 0 0).agent ≠ .host ∧ (Instr.wexit).agent = .runControl ∧ (Instr.tick).agent ≠ .runControl ∧
    nextSat (exec (.smwr 0 0) State.reset) (fun _ => true) = true ∧
    (Instr.dsctl 0 1).agent = .host ∧ (Instr.dsctl 0 1).wellFormed State.reset.cfg = true ∧ State.reset.cfg.wf = true ∧
    nextSat (exec (.dsctl 0 1) State.reset)
      (fun t => t.lifecycle != State.reset.lifecycle && !State.reset.workerLive && t.workerLive) = true ∧
    nextSat (exec .wexit (inLifecycle .down true false))
      (fun t => t.lifecycle != (inLifecycle .down true false).lifecycle && !t.workerLive) = true ∧
    nextSat (exec (.mrd 0xC000) State.reset) (fun _ => true) = true ∧ (Instr.mrd 0xC000).wellFormed State.reset.cfg = true ∧
    nextSat (exec (.dsctl 0 0x18) (inLifecycle .running true false))
      (fun t => t.events == [.secNmi, .secSpeed 8000]) = true ∧
    (Instr.siowr 0x0010 0x77).wellFormed State.reset.cfg = true ∧
    nextSat (exec (.siowr 0x0010 0x77) State.reset) (fun t => t.events.contains (.chipIoWrite 0x0010 0x77)) = true ∧
    ∀ m ∈ State.reset.mods, m.params.kind ≠ .peripheral := by decide

/-- For `PrescalerPulsesEveryEighthTick` and `AfterglowLastsExactlySpeedTimesHundred`: at speed 1 the 99th tick leaves the
indicator on, and the 100th, where the counts of `Dirty` meet, turns it off. -/
theorem witness_Ticks :
    let s : State := { State.reset with inputs := List.replicate 9 (txPack 0x5 0 0) }
    let u (n : Nat) : State :=
      { State.reset with speedKHz := 1, inputs := 0xB000500 :: List.replicate n (txPack 0x5 0 0) }
    s.cfg.ds = some cfgTDs ∧ s.inputs = List.replicate 9 (txPack 0x5 0 0) ∧
    ∀ n ∈ [0, 99, 100],
      (u n).cfg.ds = some cfgTDs ∧ cfgTDs.gidePresent = true ∧ decode (u n).cfg 0xB000500 = .ok (.gideact 0x0005 0x00) ∧
      (u n).speedKHz ≠ 0 ∧ (u n).gideGlow = 0 ∧ (u n).inputs = 0xB000500 :: List.replicate n (txPack 0x5 0 0) := by
  intro s u
  refine ⟨by decide, by decide, fun n _ => ⟨rfl, rfl, ?_, ?_, rfl, rfl⟩⟩
  · show decode Config.cfgT 0xB000500 = _
    decide
  · show (1 : KHz) ≠ 0
    decide

end Sys2Proof.Tests
end

/-! PROOFS. The scope family (00_scope.md): what a step does with the next word (R8, R12, R67), and what power-up gives for a
configuration that meets R5 (R31, R231). -/

section

namespace Sys2Proof

open Sys2Proof.Machine

/-! ## The constraints of R5, one at a time -/

theorem Config.wf_of_admits {c : Config} {ms : List ModuleParams} (h : c.admits ms = true) : c.wf = true := by
  simp only [Config.admits, Bool.and_eq_true] at h
  obtain ⟨⟨⟨hwf, _⟩, _⟩, _⟩ := h
  exact hwf

theorem Config.dsModulesWf_of_admits {c : Config} {ms : List ModuleParams} (h : c.admits ms = true) :
    c.dsModulesWf ms = true := by
  simp only [Config.admits, Bool.and_eq_true] at h
  obtain ⟨_, hds⟩ := h
  exact hds

theorem Config.dsParams_wf {c : Config} {d : DsParams} (h : c.wf = true) (hd : c.ds = some d) : d.wf = true := by
  simp only [Config.wf, hd, Bool.and_eq_true] at h
  obtain ⟨_, hwf, _⟩ := h
  exact hwf

theorem DsParams.speedInit_ne_zero {d : DsParams} (h : d.wf = true) : d.speedInit ≠ 0 := by
  simp only [DsParams.wf, Bool.and_eq_true, bne_iff_ne] at h
  obtain ⟨⟨⟨_, hinit⟩, _⟩, _⟩ := h
  exact hinit

theorem DsParams.fixedSpeed_ne_zero {d : DsParams} {k : KHz} (h : d.wf = true) (hk : d.fixedSpeed = some k) : k ≠ 0 := by
  simp only [DsParams.wf, hk, Bool.and_eq_true, bne_iff_ne] at h
  obtain ⟨⟨_, hfixed⟩, _⟩ := h
  exact fun hz => hfixed (congrArg some hz)

theorem DsParams.speedA_ne_zero {d : DsParams} {e : ExtParams} (h : d.wf = true) (he : d.variant = .ext e) :
    e.speedA ≠ 0 := by
  simp only [DsParams.wf, he, Bool.and_eq_true] at h
  obtain ⟨_, hext⟩ := h
  simp only [DsParams.extWf, Bool.and_eq_true, bne_iff_ne] at hext
  obtain ⟨⟨⟨⟨⟨⟨⟨⟨_, hspeedA⟩, _⟩, _⟩, _⟩, _⟩, _⟩, _⟩, _⟩ := hext
  exact hspeedA

/-- R17: the disk-station module of an admitted configuration has the connect bit of its `INIT_STATUS` 0. -/
theorem Config.initStatus_connectBit {c : Config} {ms : List ModuleParams} {d : DsParams} {p : ModuleParams}
    (h : c.admits ms = true) (hd : c.ds = some d) (hp : p ∈ ms) (hk : p.kind = .ds) :
    p.initStatus.getLsbD d.connectBit.val = false := by
  have hds := Config.dsModulesWf_of_admits h
  have hmem : p ∈ ms.filter (·.kind == .ds) := by simp [hp, hk]
  simp only [Config.dsModulesWf, hd] at hds
  split at hds
  next q hq =>
    rw [hq, List.mem_singleton] at hmem
    subst hmem
    simp only [Bool.and_eq_true, Bool.not_eq_true'] at hds
    obtain ⟨_, hbit⟩ := hds
    exact hbit
  next => exact absurd hds (by decide)

end Sys2Proof

namespace Sys2Proof.Machine

/-! ## The next word -/

theorem fetch_nil {s : State} (h : s.inputs = []) : fetch s = none := by
  unfold fetch
  rw [h]

theorem fetch_cons {s : State} {w : TxWord} {rest : List TxWord} (h : s.inputs = w :: rest) :
    fetch s = some (w, s.arrive rest) := by
  unfold fetch
  rw [h]

theorem step_idle {s : State} (h : s.inputs = []) : step s = .next s := by
  unfold step
  rw [fetch_nil h]

theorem step_decoded {s : State} {w : TxWord} {rest : List TxWord} {i : Instr} (h : s.inputs = w :: rest)
    (hi : decode s.cfg w = .ok i) : step s = exec i (s.arrive rest) := by
  unfold step
  simp only [fetch_cons h, hi]

theorem step_undecodable {s : State} {w : TxWord} {rest : List TxWord} {r : DecodeRefusal} (h : s.inputs = w :: rest)
    (hr : decode s.cfg w = .error r) : step s = .refused (.undecodable r) := by
  unfold step
  simp only [fetch_cons h, hr]

/-- Settles O5: the three branches of a step, by what waits and what it decodes to. -/
theorem stepRunsDecodedOperation : Obligations.StepRunsDecodedOperation := by
  intro s
  exact ⟨fun _ _ _ h hi => step_decoded h hi, fun _ _ _ h hr => step_undecodable h hr, step_idle⟩

/-! ## The construction values (R31, R231) -/

@[simp] theorem Memory.unwritten_cells : Memory.unwritten.cells = [] := rfl
@[simp] theorem Memory.unwritten_clearedBelow : Memory.unwritten.clearedBelow = 0 := rfl
@[simp] theorem Memory.unwritten_wf : Memory.unwritten.wf = true := rfl

@[simp] theorem Module.construct_params (p : ModuleParams) : (Module.construct p).params = p := rfl
@[simp] theorem Module.construct_status (p : ModuleParams) : (Module.construct p).status = p.initStatus := rfl
@[simp] theorem Module.construct_store (p : ModuleParams) : (Module.construct p).store = .unwritten := rfl

@[simp] theorem Module.construct_storeOk (p : ModuleParams) : (Module.construct p).storeOk = true := by
  unfold Module.storeOk
  cases hk : p.kind <;> simp [hk, cellsBelow]

@[simp] theorem Module.construct_statusOk (p : ModuleParams) : (Module.construct p).statusOk = true := by
  simp [Module.statusOk]

@[simp] theorem glowOk_zero (d : DsParams) (k : KHz) : glowOk d 0 k = true := by
  cases h : d.afterglow <;> simp [glowOk, h]

theorem initialSpeed_fixed {c : Config} {d : DsParams} {k : KHz} (hd : c.ds = some d) (hk : d.fixedSpeed = some k) :
    initialSpeed c = k := by
  simp only [initialSpeed, hd, hk]

theorem initialSpeed_base {c : Config} {d : DsParams} (hd : c.ds = some d) (hf : d.fixedSpeed = none)
    (hv : d.variant = .base) : initialSpeed c = d.speedInit := by
  simp only [initialSpeed, hd, hf, hv]

theorem initialSpeed_ext {c : Config} {d : DsParams} {e : ExtParams} (hd : c.ds = some d) (hf : d.fixedSpeed = none)
    (hv : d.variant = .ext e) : initialSpeed c = e.speedA := by
  simp only [initialSpeed, hd, hf, hv]

/-- R10, R20: each of the three sources of the construction speed is nonzero by R5. -/
theorem initialSpeed_ne_zero {c : Config} (h : c.wf = true) : initialSpeed c ≠ 0 := by
  cases hd : c.ds with
  | none => simp [initialSpeed, hd]
  | some d =>
    have hwf := Config.dsParams_wf h hd
    cases hf : d.fixedSpeed with
    | some k => rw [initialSpeed_fixed hd hf]; exact DsParams.fixedSpeed_ne_zero hwf hf
    | none =>
      cases hv : d.variant with
      | base => rw [initialSpeed_base hd hf hv]; exact DsParams.speedInit_ne_zero hwf
      | ext e => rw [initialSpeed_ext hd hf hv]; exact DsParams.speedA_ne_zero hwf hv

section Construct

variable (c : Config) (ms : List ModuleParams)

@[simp] theorem State.construct_cfg : (State.construct c ms).cfg = c := rfl
@[simp] theorem State.construct_mods : (State.construct c ms).mods = ms.map Module.construct := rfl
@[simp] theorem State.construct_secMem : (State.construct c ms).secMem = .unwritten := rfl
@[simp] theorem State.construct_pageRam : (State.construct c ms).pageRam = .unwritten := rfl
@[simp] theorem State.construct_runLevel : (State.construct c ms).runLevel = .down := rfl
@[simp] theorem State.construct_coldPending : (State.construct c ms).coldPending = false := rfl
@[simp] theorem State.construct_speedKHz : (State.construct c ms).speedKHz = initialSpeed c := rfl
@[simp] theorem State.construct_gideGlow : (State.construct c ms).gideGlow = 0 := rfl
@[simp] theorem State.construct_dmaGlow : (State.construct c ms).dmaGlow = 0 := rfl

@[simp] theorem State.construct_modParams : (State.construct c ms).modParams = ms := by
  simp [State.modParams, Function.comp_def]

/-- Every field `absentOk` looks at is at its zero after construction, whatever the configuration has. -/
@[simp] theorem State.construct_absentOk : (State.construct c ms).absentOk = true := by
  unfold State.absentOk
  cases hd : c.ds with
  | none => simp [hd, State.construct]
  | some d => cases hv : d.variant <;> simp [hd, hv, State.construct]

end Construct

/-- Settles O50, one clause of the invariant at a time. -/
theorem powerUpMeetsInvariant : Obligations.PowerUpMeetsInvariant := by
  intro c ms h
  exact {
    config := by simpa using h
    stores := by simp
    statuses := by simp
    secMem := by simp [cellsBelow]
    pageRam := by simp [cellsBelow]
    stopped := fun _ => rfl
    cold := by simp
    speed := initialSpeed_ne_zero (Config.wf_of_admits h)
    glows := fun d _ => by simp
    absent := State.construct_absentOk c ms }

/-- R17: the bridge is disconnected at construction. -/
theorem State.construct_connected {c : Config} {ms : List ModuleParams} (h : c.admits ms = true) :
    (State.construct c ms).connected = false := by
  unfold State.connected
  cases hd : c.ds with
  | none => simp [hd]
  | some d =>
    have hbit : ∀ p ∈ ms, p.kind = .ds → p.initStatus.getLsbD d.connectBit.val = false :=
      fun p hp hk => Config.initStatus_connectBit h hd hp hk
    simpa [hd, Module.connected] using hbit

theorem powerUp_admitted {c : Config} {ms : List ModuleParams} (h : c.admits ms = true) :
    powerUp c ms = .next (State.construct c ms) := if_pos h

theorem powerUp_refused {c : Config} {ms : List ModuleParams} (h : c.admits ms = false) :
    powerUp c ms = .refused .brokenConfiguration := if_neg (by simp [h])

/-- Settles O48: an admitted configuration gives `State.construct`, whose values are read off. -/
theorem powerUpGivesConstructionValues : Obligations.PowerUpGivesConstructionValues := by
  intro c ms
  refine ⟨powerUp_refused, fun h => ⟨State.construct c ms, powerUp_admitted h, ?_, ?_, rfl,
    State.construct_connected h, rfl, rfl, Memory.unwritten_get, Memory.unwritten_get, fun d hd => ⟨?_, ?_, ?_⟩⟩⟩
  · simp [State.configuration]
  · intro m hm
    obtain ⟨p, _, rfl⟩ := List.mem_map.mp hm
    exact ⟨rfl, Memory.unwritten_get⟩
  · exact fun k hk => initialSpeed_fixed hd hk
  · exact fun hf hv => initialSpeed_base hd hf hv
  · exact fun e hf hv => initialSpeed_ext hd hf hv

end Sys2Proof.Machine

end

/-! PROOFS. The state family (10_state.md): reset meets the invariant and every step keeps it (R10, R11, R28, R128), no step
writes the configuration (R15), a status byte is written alone (R85, R100), a host reset disconnects the bridge (R17, R230),
and ticks drive the prescaler (R27, R160). -/

section

namespace Sys2Proof

open Sys2Proof.Machine

/-! ## What else R5 gives -/

theorem Config.modulesWf_of_admits {c : Config} {ms : List ModuleParams} (h : c.admits ms = true) :
    ∀ p ∈ ms, p.wf = true := by
  simp only [Config.admits, Bool.and_eq_true] at h
  obtain ⟨⟨⟨_, hall⟩, _⟩, _⟩ := h
  exact List.all_eq_true.mp hall

theorem Config.slotsDistinct_of_admits {c : Config} {ms : List ModuleParams} (h : c.admits ms = true) :
    slotsDistinct ms = true := by
  simp only [Config.admits, Bool.and_eq_true] at h
  obtain ⟨⟨_, hslots⟩, _⟩ := h
  exact hslots

theorem DsParams.speedB_ne_zero {d : DsParams} {e : ExtParams} (h : d.wf = true) (he : d.variant = .ext e) :
    e.speedB ≠ 0 := by
  simp only [DsParams.wf, he, Bool.and_eq_true] at h
  obtain ⟨_, hext⟩ := h
  simp only [DsParams.extWf, Bool.and_eq_true, bne_iff_ne] at hext
  obtain ⟨⟨⟨⟨⟨⟨⟨_, hspeedB⟩, _⟩, _⟩, _⟩, _⟩, _⟩, _⟩ := hext
  exact hspeedB

theorem slotsDistinct_iff (ms : List ModuleParams) :
    slotsDistinct ms = true ↔ ms.Pairwise fun p q => q.slotId ≠ p.slotId := by
  induction ms with
  | nil => simp [slotsDistinct]
  | cons p ps ih => simp [slotsDistinct, ih]

/-- R103, R104: an access inside the window stays inside the backing store, since the offset is below `W ≤ N`, the segment
bits are below `N`, and `N` is a power of two. -/
theorem Decoder.index_lt {d : Decoder} {status : Byte} {a : Addr} (h : d.wf = true) (hw : d.inWindow status a = true) :
    d.index status a < d.storeSize := by
  simp only [Decoder.wf, Bool.and_eq_true, beq_iff_eq, decide_eq_true_eq] at h
  obtain ⟨⟨⟨⟨⟨_, hpow⟩, hle⟩, _⟩, hmask⟩, _⟩ := h
  simp only [Decoder.inWindow, Bool.and_eq_true, decide_eq_true_eq] at hw
  have hoff : d.offset status a < d.storeSize := by unfold Decoder.offset; omega
  have hseg : d.segmentMask status < d.storeSize := by
    unfold Decoder.segmentMask
    split
    · omega
    · exact lt_of_le_of_lt Nat.and_le_right hmask
  rw [← hpow] at hoff hseg ⊢
  exact Nat.or_lt_two_pow hoff hseg

end Sys2Proof

namespace Sys2Proof.Machine

/-! ## The next state of an outcome -/

/-- Whatever next state an operation answers has a property; a refusal or a fault answers none. -/
def NextSat (P : State → Prop) (o : Host.Outcome State Fault Refusal) : Prop := ∀ t, o = .next t → P t

theorem NextSat.next {P : State → Prop} {t : State} (h : P t) : NextSat P (.next t) := by
  rintro _ ⟨⟩
  exact h

theorem NextSat.refused {P : State → Prop} {r : Refusal} : NextSat P (.refused r) := by
  rintro _ ⟨⟩

/-- An operation of the disk station answers a next state only where there is one. -/
theorem NextSat.withDs {P : State → Prop} {s : State} {f : DsParams → Host.Outcome State Fault Refusal}
    (h : ∀ d, s.cfg.ds = some d → NextSat P (f d)) : NextSat P (withDs s f) := by
  unfold Machine.withDs
  cases hd : s.cfg.ds with
  | none => exact .refused
  | some d => exact h d hd

/-- An operation with an enabling condition answers a next state only where it holds (R67). -/
theorem NextSat.guarded {P : State → Prop} {b : Prop} [Decidable b] {t : State} {r : Refusal} (h : b → P t) :
    NextSat P (if b then .next t else .refused r) := by
  split
  next hb => exact .next (h hb)
  next => exact .refused

/-- The same where the condition is that of the refusal, as in `SPEEDCHG` (R67). -/
theorem NextSat.unless {P : State → Prop} {b : Prop} [Decidable b] {t : State} {r : Refusal} (h : ¬b → P t) :
    NextSat P (if b then .refused r else .next t) := by
  split
  next => exact .refused
  next hb => exact .next (h hb)

/-! ## Modules: stores, status bytes, slots -/

@[simp] theorem Module.setStatus_params (m : Module) (v : Byte) : (m.setStatus v).params = m.params := rfl
@[simp] theorem Module.setStatus_status (m : Module) (v : Byte) : (m.setStatus v).status = v := rfl
@[simp] theorem Module.setStatus_storeOk (m : Module) (v : Byte) : (m.setStatus v).storeOk = m.storeOk := rfl

theorem Module.statusOk_iff (m : Module) :
    m.statusOk = true ↔ m.params.switchable = true ∨ m.status = m.params.initStatus := by
  simp [Module.statusOk]

theorem Module.storeOk_ram_iff {m : Module} {dec : Decoder} {we : Fin 8} (hk : m.params.kind = .ram dec we) :
    m.storeOk = true ↔
      m.store.wf = true ∧ m.store.clearedBelow = 0 ∧ cellsBelow dec.storeSize m.store.cells = true := by
  simp [Module.storeOk, hk, and_assoc]

/-- R103: the index of a claimed access is inside the backing store. -/
theorem Module.claimIndex_lt {m : Module} {c : Config} {a : Addr} {i : Nat} {dec : Decoder}
    (hdec : m.decoder? c = some dec) (hwf : dec.wf = true) (h : m.claimIndex c a = some i) : i < dec.storeSize := by
  simp only [Module.claimIndex, hdec, Option.ite_none_right_eq_some, Bool.and_eq_true, Option.some.injEq] at h
  obtain ⟨⟨_, hw⟩, rfl⟩ := h
  exact Decoder.index_lt hwf hw

/-- The only write `writeMem` makes goes to a RAM, at a claimed index, which is inside its store. -/
theorem writeMem_storeOk {m : Module} (c : Config) (a : Addr) (v : Byte) (hp : m.params.wf = true)
    (h : m.storeOk = true) : (m.writeMem c a v).2.storeOk = true := by
  rcases writeMem_cases m c a v with hsame | ⟨dec, we, i, hk, hi, _, hset⟩
  · rwa [hsame]
  · have hdec : m.decoder? c = some dec := by simp [Module.decoder?, hk]
    have hwf : dec.wf = true := by simpa [ModuleParams.wf, hk] using hp
    obtain ⟨hcanon, hclear, hbelow⟩ := (Module.storeOk_ram_iff hk).1 h
    rw [hset]
    exact (Module.storeOk_ram_iff (m := { m with store := m.store.set i v }) hk).2 ⟨Memory.wf_set _ _ _ hcanon, hclear,
      cellsBelow_set _ _ _ _ (Module.claimIndex_lt hdec hwf hi) hbelow⟩

theorem writeMem_statusOk {m : Module} (c : Config) (a : Addr) (v : Byte) (h : m.statusOk = true) :
    (m.writeMem c a v).2.statusOk = true := by
  rw [Module.statusOk_iff] at h ⊢
  simpa using h

theorem State.slotsDistinct_mods {s : State} (h : slotsDistinct s.modParams = true) :
    s.mods.Pairwise fun m n => n.params.slotId ≠ m.params.slotId := by
  rw [slotsDistinct_iff, State.modParams, List.pairwise_map] at h
  exact h

theorem State.mem_modParams {s : State} {m : Module} (h : m ∈ s.mods) : m.params ∈ s.modParams :=
  List.mem_map_of_mem h

/-- R5, R87: modules elsewhere in the order are in other slots. -/
theorem State.slotId_ne_of_mods_eq {s : State} {before after : List Module} {m x : Module}
    (h : slotsDistinct s.modParams = true) (hs : s.mods = before ++ m :: after) (hx : x ∈ before ∨ x ∈ after) :
    x.params.slotId ≠ m.params.slotId := by
  have hpw := State.slotsDistinct_mods h
  rw [hs, List.pairwise_append, List.pairwise_cons] at hpw
  obtain ⟨_, ⟨hafter, _⟩, hbefore⟩ := hpw
  rcases hx with hx | hx
  · exact (hbefore x hx m (by simp)).symm
  · exact hafter x hx

theorem findSlot_none {mods : List Module} {slot : Byte} (h : ∀ m ∈ mods, m.params.slotId ≠ slot) :
    findSlot mods slot = none := by
  simpa [findSlot] using h

theorem findSlot_append_cons {before after : List Module} {m : Module} {slot : Byte}
    (hb : ∀ x ∈ before, x.params.slotId ≠ slot) (hm : m.params.slotId = slot) :
    findSlot (before ++ m :: after) slot = some m := by
  have hnone : before.find? (fun x => x.params.slotId == slot) = none := by simpa using hb
  simp [findSlot, List.find?_append, hnone, hm]

/-- A module found in a slot splits the order there. -/
theorem findSlot_some {mods : List Module} {slot : Byte} {m : Module} (h : findSlot mods slot = some m) :
    m.params.slotId = slot ∧ ∃ before after, mods = before ++ m :: after := by
  obtain ⟨hm, before, after, hs, _⟩ := List.find?_eq_some_iff_append.1 h
  exact ⟨by simpa using hm, before, after, hs⟩

/-- No module in the slot, nothing changed (R85). -/
theorem setSlotStatus_of_ne {mods : List Module} {slot : Byte} (v : Byte) (h : ∀ m ∈ mods, m.params.slotId ≠ slot) :
    setSlotStatus mods slot v = mods := by
  unfold setSlotStatus
  conv_rhs => rw [← List.map_id mods]
  exact List.map_congr_left fun m hm => if_neg (h m hm)

/-- R85: the one module in the slot gets the byte. -/
theorem setSlotStatus_append_cons {before after : List Module} {m : Module} {slot : Byte} (v : Byte)
    (hb : ∀ x ∈ before, x.params.slotId ≠ slot) (hm : m.params.slotId = slot)
    (ha : ∀ x ∈ after, x.params.slotId ≠ slot) :
    setSlotStatus (before ++ m :: after) slot v = before ++ m.setStatus v :: after := by
  have hsplit : setSlotStatus (before ++ m :: after) slot v =
      setSlotStatus before slot v ++ m.setStatus v :: setSlotStatus after slot v := by
    simp [setSlotStatus, hm]
  rw [hsplit, setSlotStatus_of_ne v hb, setSlotStatus_of_ne v ha]

/-- What a status write does (R85): its answer alone, or the byte to the one switchable module in the slot. -/
theorem statusWrite_cases {s : State} (slot v : Byte) (h : slotsDistinct s.modParams = true) :
    (∃ o, statusWrite s slot v = s.setAnswer (.hostWrite o)) ∨
    ∃ before m after, s.mods = before ++ m :: after ∧ m.params.switchable = true ∧
      statusWrite s slot v = (s.setMods (before ++ m.setStatus v :: after)).setAnswer (.hostWrite .handledWritten) := by
  unfold statusWrite
  cases hf : findSlot s.mods slot with
  | none => exact .inl ⟨_, rfl⟩
  | some m =>
    cases hsw : m.params.switchable with
    | false => exact .inl ⟨.handledBlocked, by simp [hsw]⟩
    | true =>
      obtain ⟨hm, before, after, hs⟩ := findSlot_some hf
      have hne {x : Module} (hx : x ∈ before ∨ x ∈ after) : x.params.slotId ≠ slot :=
        hm ▸ State.slotId_ne_of_mods_eq h hs hx
      refine .inr ⟨before, m, after, hs, hsw, ?_⟩
      simp only [hsw, if_true, hs, setSlotStatus_append_cons v (fun x hx => hne (.inl hx)) hm fun x hx => hne (.inr hx)]

/-- R64: a write of the status port with the slot in the high byte. -/
theorem decode_statwr (c : Config) (slot v : Byte) :
    decode c (txPack 0x3 (mkPort slot c.statusPort) v) = .ok (.statwr slot v) := by
  simp [decode, classifyIoWrite]

/-- Settles O17: the slot's module is found first, and the distinct slots leave every other module as it is. -/
theorem statusWriteReplacesOneStatusByte : Obligations.StatusWriteReplacesOneStatusByte := by
  intro s slot v hslots
  refine ⟨decode_statwr s.cfg slot v, fun hnone => ?_, fun before m after hs hm => ?_⟩
  · simp only [exec, execStatwr, statusWrite, findSlot_none hnone]
  · have hb : ∀ x ∈ before, x.params.slotId ≠ slot :=
      fun x hx => hm ▸ State.slotId_ne_of_mods_eq hslots hs (.inl hx)
    have ha : ∀ x ∈ after, x.params.slotId ≠ slot :=
      fun x hx => hm ▸ State.slotId_ne_of_mods_eq hslots hs (.inr hx)
    refine ⟨fun hsw => ?_, fun hsw => ⟨m.setStatus v, ?_, rfl, rfl, rfl, rfl, fun _ => rfl, fun _ => rfl⟩⟩
    · simp [exec, execStatwr, statusWrite, hs, findSlot_append_cons hb hm, hsw]
    · simp [exec, execStatwr, statusWrite, hs, findSlot_append_cons hb hm, hsw, setSlotStatus_append_cons v hb hm ha]

/-! ## Reset and the host reset -/

/-- Settles O49: reset is power-up with CFG-T, which R5 admits. -/
theorem resetMeetsInvariant : Obligations.ResetMeetsInvariant :=
  powerUpMeetsInvariant Config.cfgT cfgTMods (by decide)

/-- R230: the module list and the lifecycle and latch after a host reset. -/
theorem hostReset_cases (s : State) :
    (s.cfg.ds = none ∧ hostReset s = s.setMods (resetModules s.mods)) ∨
    ∃ d, s.cfg.ds = some d ∧ hostReset s =
      ((s.setMods (resetModules s.mods)).setLatch 0).setRunLevel (if d.hostResetStops then .down else s.runLevel) := by
  unfold hostReset
  cases hd : s.cfg.ds with
  | none => exact .inl ⟨rfl, rfl⟩
  | some d => cases hstop : d.hostResetStops <;> exact .inr ⟨d, rfl, by simp [hstop]; rfl⟩

@[simp] theorem hostReset_cfg (s : State) : (hostReset s).cfg = s.cfg := by
  rcases hostReset_cases s with ⟨_, h⟩ | ⟨_, _, h⟩ <;> rw [h] <;> rfl

@[simp] theorem hostReset_mods (s : State) : (hostReset s).mods = resetModules s.mods := by
  rcases hostReset_cases s with ⟨_, h⟩ | ⟨_, _, h⟩ <;> rw [h] <;> rfl

theorem hostReset_latch (s : State) : (hostReset s).latch = if s.cfg.ds.isSome then 0 else s.latch := by
  rcases hostReset_cases s with ⟨hd, h⟩ | ⟨_, hd, h⟩ <;> rw [h] <;> simp [hd]

theorem mem_resetModules {mods : List Module} {m : Module} (h : m ∈ resetModules mods) :
    ∃ x ∈ mods, m = x.setStatus x.params.initStatus := by
  obtain ⟨x, hx, rfl⟩ := List.mem_map.1 h
  exact ⟨x, hx, rfl⟩

/-- R17: the disk-station module is back at its `INIT_STATUS`, whose connect bit is 0. -/
theorem hostReset_connected {s : State} (h : s.cfg.admits s.modParams = true) : (hostReset s).connected = false := by
  unfold State.connected
  cases hd : s.cfg.ds with
  | none => simp [hd]
  | some d =>
    simp only [hostReset_cfg, hd, hostReset_mods, List.any_eq_false, Bool.and_eq_true, beq_iff_eq, not_and]
    intro m hm hk
    obtain ⟨x, hx, rfl⟩ := mem_resetModules hm
    simpa [Module.connected] using Config.initStatus_connectBit h hd (State.mem_modParams hx) hk

/-- Settles O47. -/
theorem hostResetDisconnectsBridge : Obligations.HostResetDisconnectsBridge := by
  intro s h
  exact ⟨(hostReset s).setAnswer .silent, rfl, hostReset_connected h, hostReset_latch s⟩

/-! ## What no operation writes: the configuration, and the order of arrival (R10, R15, R50) -/

/-- The configuration, with each module's constants, the words still to arrive and the count of those taken. -/
def State.fixedPart (s : State) : (Config × List ModuleParams) × List TxWord × Nat :=
  (s.configuration, s.inputs, s.arrivals)

@[simp] theorem State.setAnswer_fixedPart (s : State) (x : Answer) : (s.setAnswer x).fixedPart = s.fixedPart := rfl
@[simp] theorem State.emit_fixedPart (s : State) (e : Event) : (s.emit e).fixedPart = s.fixedPart := rfl
@[simp] theorem State.setSecMem_fixedPart (s : State) (x : Memory) : (s.setSecMem x).fixedPart = s.fixedPart := rfl
@[simp] theorem State.setPageRam_fixedPart (s : State) (x : Memory) : (s.setPageRam x).fixedPart = s.fixedPart := rfl
@[simp] theorem State.setGideGlow_fixedPart (s : State) (x : Nat) : (s.setGideGlow x).fixedPart = s.fixedPart := rfl
@[simp] theorem State.setDmaGlow_fixedPart (s : State) (x : Nat) : (s.setDmaGlow x).fixedPart = s.fixedPart := rfl
@[simp] theorem State.setSpeed_fixedPart (s : State) (x : KHz) : (s.setSpeed x).fixedPart = s.fixedPart := rfl

/-- An answer after an operation that writes none of this. -/
theorem State.setAnswer_fixedPart_of {s t : State} (h : t.fixedPart = s.fixedPart) (x : Answer) :
    (t.setAnswer x).fixedPart = s.fixedPart := (State.setAnswer_fixedPart t x).trans h

/-- A new module list with the constants of the old one. -/
theorem State.setMods_fixedPart {s : State} {mods : List Module} (h : mods.map (·.params) = s.modParams) :
    (s.setMods mods).fixedPart = s.fixedPart := by
  simp only [State.fixedPart, State.configuration, ← h]
  rfl

theorem statusWrite_fixedPart (s : State) (slot v : Byte) : (statusWrite s slot v).fixedPart = s.fixedPart := by
  unfold statusWrite
  split
  · rfl
  · split
    · exact State.setMods_fixedPart (s := s) (setSlotStatus_params _ _ _)
    · rfl

theorem typeRead_eq (s : State) (slot : Byte) : ∃ a, typeRead s slot = s.setAnswer a := by
  unfold typeRead
  split <;> exact ⟨_, rfl⟩

theorem ioRead_fixedPart (s : State) (p : Port) : (ioRead s p).fixedPart = s.fixedPart := by
  obtain ⟨_, _, h, _⟩ := ioRead_eq s p
  rw [h, State.setAnswer_fixedPart]

theorem controlWrite_fixedPart (d : DsParams) (s : State) (v : Byte) :
    (controlWrite d s v).fixedPart = s.fixedPart := by
  obtain ⟨_, _, _, _, _, _, _, _, h, _⟩ := controlWrite_spec d s v
  rw [h]
  rfl

theorem ioWrite_fixedPart (s : State) (p : Port) (v : Byte) : (ioWrite s p v).fixedPart = s.fixedPart := by
  rcases ioWrite_cases s p v with ⟨_, h⟩ | ⟨_, _, _, h⟩ | ⟨d, _, _, h⟩
  · rw [h, State.setAnswer_fixedPart]
  · simp [h]
  · rw [h, State.setAnswer_fixedPart, controlWrite_fixedPart]

theorem runAction_fixedPart (s : State) (b : CtrlBit) : (runAction s b).fixedPart = s.fixedPart := by
  obtain ⟨_, _, _, _, h, _⟩ := runAction_spec s b
  rw [h]
  rfl

theorem hostReset_fixedPart (s : State) : (hostReset s).fixedPart = s.fixedPart := by
  rcases hostReset_cases s with ⟨_, h⟩ | ⟨_, _, h⟩ <;> rw [h] <;>
    exact State.setMods_fixedPart (s := s) (resetModules_params _)

theorem clockTick_fixedPart (d : DsParams) (s : State) : (clockTick d s).fixedPart = s.fixedPart := by
  obtain ⟨_, h, _⟩ := clockTick_spec d s
  rw [h]
  rfl

theorem secWrite_fixedPart (s : State) (a : Addr) (v : Byte) : (secWrite s a v).fixedPart = s.fixedPart := by
  rcases secWrite_cases s a v with ⟨_, h⟩ | ⟨_, h⟩
  · rw [h, State.setPageRam_fixedPart]
  · rw [h, State.setSecMem_fixedPart]

theorem setSpeedTo_fixedPart (d : DsParams) (s : State) (k : KHz) : (setSpeedTo d s k).fixedPart = s.fixedPart := by
  simp [setSpeedTo]

theorem glowLoad_fixedPart (s : State) (i : Indicator) : (glowLoad s i).fixedPart = s.fixedPart := by
  cases i
  · rw [glowLoad_gide]; rfl
  · rw [glowLoad_dma]; rfl

theorem enterLoop_fixedPart (d : DsParams) (s : State) : (enterLoop d s).fixedPart = s.fixedPart := by
  cases hc : s.coldPending <;> simp only [enterLoop, hc] <;> rfl

theorem containFault_fixedPart (s : State) : (containFault s).fixedPart = s.fixedPart := by
  unfold containFault
  split <;> rfl

/-- No operation writes the configuration or the order of arrival: each writes through one of the shared operations. -/
theorem exec_fixedPart (i : Instr) (s : State) : NextSat (fun t => t.fixedPart = s.fixedPart) (exec i s) := by
  cases i with
  | mrd a => exact .next rfl
  | mwr a v => exact .next (State.setAnswer_fixedPart_of (State.setMods_fixedPart (busWrite_params _ _ _ _)) _)
  | typerd slot =>
    obtain ⟨a, h⟩ := typeRead_eq s slot
    exact .next (by rw [h, State.setAnswer_fixedPart])
  | brrd page high => exact .next (ioRead_fixedPart _ _)
  | iord p => exact .next (ioRead_fixedPart _ _)
  | statwr slot v => exact .next (statusWrite_fixedPart _ _ _)
  | dsctl high v => exact .withDs fun d _ => .next (ioWrite_fixedPart _ _ _)
  | brwr page high v => exact .next (ioWrite_fixedPart _ _ _)
  | iowr p v => exact .next (ioWrite_fixedPart _ _ _)
  | encpu => exact .withDs fun d _ => .next (runAction_fixedPart s .enable)
  | stopcpu => exact .withDs fun d _ => .next (runAction_fixedPart s .stop)
  | rstcpu => exact .withDs fun d _ => .next (runAction_fixedPart s .reset)
  | nmicpu => exact .withDs fun d _ => .next (runAction_fixedPart s .nmi)
  | hreset => exact .next (State.setAnswer_fixedPart_of (hostReset_fixedPart s) _)
  | tick => exact .withDs fun d _ => .next (State.setAnswer_fixedPart_of (clockTick_fixedPart d s) _)
  | speedchg k => exact .withDs fun d _ => .unless fun _ => State.setAnswer_fixedPart_of (setSpeedTo_fixedPart d s k) _
  | smrd a => exact .withDs fun d _ => .next rfl
  | smwr a v => exact .withDs fun d _ => .next (State.setAnswer_fixedPart_of (secWrite_fixedPart s a v) _)
  | siord p => exact .withDs fun d _ => .next rfl
  | drvsel high v => exact .withDs fun d _ => .next rfl
  | gideact p v =>
    refine .withDs fun d _ => .next ?_
    rw [State.setAnswer_fixedPart, State.emit_fixedPart]
    split
    · exact glowLoad_fixedPart s .gide
    · rfl
  | dmaact p v =>
    refine .withDs fun d _ => ?_
    cases d.variant with
    | base => exact .next rfl
    | ext e => exact .next (State.setAnswer_fixedPart_of (glowLoad_fixedPart s .dma) _)
  | pagewr high v =>
    refine .withDs fun d _ => ?_
    cases d.variant with
    | base => exact .refused
    | ext e => exact .next rfl
  | siowr p v => exact .withDs fun d _ => .next rfl
  | loopenter => exact .withDs fun d _ => .guarded fun _ => State.setAnswer_fixedPart_of (enterLoop_fixedPart d s) _
  | wexit => exact .withDs fun d _ => .guarded fun _ => rfl
  | sfault => exact .withDs fun d _ => .guarded fun _ => State.setAnswer_fixedPart_of (containFault_fixedPart s) _

/-- Settles O52: a step is idle, or takes one word and executes an operation that writes none of this. -/
theorem stepKeepsConfigurationAndOrder : Obligations.StepKeepsConfigurationAndOrder := by
  intro s t h
  rcases step_next_cases h with ⟨hidle, rfl⟩ | ⟨w, rest, i, hin, _, hexec⟩
  · simp [hidle]
  · have hfix := exec_fixedPart i (s.arrive rest) t hexec
    simp only [State.fixedPart, Prod.mk.injEq] at hfix
    obtain ⟨hcfg, hinputs, harrivals⟩ := hfix
    exact ⟨hcfg, by simp [hinputs, hin], by simp [harrivals, hin]⟩

/-! ## Runs of ticks (R27, R160) -/

theorem run_succ {s t : State} (h : step s = .next t) (n : Nat) :
    Host.Core.run core (n + 1) s = Host.Core.run core n t := by
  have hstep : core.step s = .next t := h
  simp only [Host.Core.run, hstep]

theorem decode_tick {c : Config} {d : DsParams} (hd : c.ds = some d) : decode c (txPack 0x5 0 0) = .ok .tick := by
  simp [decode, withDiskStation, hd]

theorem step_tick {s : State} {d : DsParams} {rest : List TxWord} (hd : s.cfg.ds = some d)
    (h : s.inputs = txPack 0x5 0 0 :: rest) : step s = .next ((clockTick d (s.arrive rest)).setAnswer .silent) := by
  rw [step_decoded h (decode_tick hd)]
  simp [exec, execTick, withDs, hd]

@[simp] theorem clockTick_cfg (d : DsParams) (s : State) : (clockTick d s).cfg = s.cfg := by
  obtain ⟨_, h, _⟩ := clockTick_spec d s
  rw [h]

@[simp] theorem clockTick_inputs (d : DsParams) (s : State) : (clockTick d s).inputs = s.inputs := by
  obtain ⟨_, h, _⟩ := clockTick_spec d s
  rw [h]

@[simp] theorem clockTick_div8 (d : DsParams) (s : State) : (clockTick d s).div8 = s.div8 + 1 := by
  obtain ⟨_, h, _⟩ := clockTick_spec d s
  rw [h]

/-- R160: one pulse exactly on the wrap to 0; the other events of a tick are no pulses. -/
theorem clockTick_pulses (d : DsParams) (s : State) :
    (clockTick d s).events.count .ctc0Pulse = s.events.count .ctc0Pulse + if s.div8 + 1 = 0 then 1 else 0 := by
  obtain ⟨es, h, hes⟩ := clockTick_spec d s
  rw [h, hes]
  simp only [List.count_append]
  split <;> split <;> split <;> simp

/-- The prescaler's phase wraps and pulses as division by 8 does: one tick from phase `p`, then `n` more. -/
theorem phase_succ (p : BitVec 3) (n : Nat) :
    ((p + 1).toNat + n) % 8 = (p.toNat + (n + 1)) % 8 ∧
      (if p + 1 = 0 then 1 else 0) + ((p + 1).toNat + n) / 8 = (p.toNat + (n + 1)) / 8 := by
  have hp : p.toNat < 8 := p.isLt
  have hsucc : (p + 1).toNat = (p.toNat + 1) % 8 := by simp [BitVec.toNat_add]
  have hwrap : p + 1 = 0 ↔ p.toNat = 7 := by
    rw [← BitVec.toNat_inj, hsucc]
    simp
    omega
  rw [if_congr hwrap rfl rfl, hsucc]
  split <;> omega

/-- Settles O59, by induction on the number of ticks: the first moves the phase by one. -/
theorem prescalerPulsesEveryEighthTick : Obligations.PrescalerPulsesEveryEighthTick := by
  intro n
  induction n with
  | zero =>
    intro s d _ _
    have hp : s.div8.toNat < 8 := s.div8.isLt
    exact ⟨s, rfl, by omega, by omega⟩
  | succ n ih =>
    intro s d hd hin
    rw [List.replicate_succ] at hin
    obtain ⟨t, hrun, hphase, hpulses⟩ :=
      ih ((clockTick d (s.arrive (List.replicate n (txPack 0x5 0 0)))).setAnswer .silent) d (by simpa using hd) (by simp)
    obtain ⟨hmod, hdiv⟩ := phase_succ s.div8 n
    refine ⟨t, by rw [run_succ (step_tick hd hin), hrun], ?_, ?_⟩
    · rw [hphase, ← hmod]
      simp
    · rw [hpulses, ← hdiv, ← Nat.add_assoc]
      exact congrArg₂ (· + ·) (clockTick_pulses d _) (by simp)

end Sys2Proof.Machine
end

/-! PROOFS. Every step keeps the invariant (R10, R11, R28, R128): one rule per piece of state an operation writes, one per
shared operation, and the case split over the operations. -/

section

namespace Sys2Proof.Machine

/-! ## What the invariant says of the state a configuration lacks, and of a counter -/

/-- The state of the units a disk station can lack (R10, "exists when"): the GIDE counter, the clock bit, and the DMA
counter and page register of `EXT`. -/
structure State.AbsentZero (s : State) (d : DsParams) : Prop where
  gide : d.gidePresent = false → s.gideGlow = 0
  fixedRate : d.fixedSpeed ≠ none → s.clkSel = false
  dma : d.variant = .base → s.dmaGlow = 0
  clock : d.variant = .base → s.clkSel = false
  page : d.variant = .base → s.pageEn = false ∧ s.pageBank = 0 ∧ s.pageRam = .unwritten

/-- With a disk station `absentOk` is one implication for each such piece of state. -/
theorem State.absentOk_iff {s : State} {d : DsParams} (hd : s.cfg.ds = some d) :
    s.absentOk = true ↔ s.AbsentZero d := by
  have hfields : s.AbsentZero d ↔ (d.gidePresent = false → s.gideGlow = 0) ∧ (d.fixedSpeed ≠ none → s.clkSel = false) ∧
      (d.variant = .base → s.dmaGlow = 0) ∧ (d.variant = .base → s.clkSel = false) ∧
      (d.variant = .base → s.pageEn = false ∧ s.pageBank = 0 ∧ s.pageRam = .unwritten) :=
    ⟨fun ⟨hg, hf, hd, hc, hp⟩ => ⟨hg, hf, hd, hc, hp⟩, fun ⟨hg, hf, hd, hc, hp⟩ => ⟨hg, hf, hd, hc, hp⟩⟩
  rw [hfields]
  unfold State.absentOk
  cases hv : d.variant <;> simp [hd, hv, or_iff_not_imp_left, and_assoc]

theorem State.absentOk_of {s : State} {d : DsParams} (hd : s.cfg.ds = some d) (h : s.AbsentZero d) :
    s.absentOk = true := (State.absentOk_iff hd).2 h

/-- A smaller count is within R28 too. -/
theorem glowOk_mono {d : DsParams} {g g' : Nat} {k : KHz} (h : glowOk d g k = true) (hle : g' ≤ g) :
    glowOk d g' k = true := by
  cases hm : d.afterglow <;> simp only [glowOk, hm, Bool.and_eq_true, Bool.and_true, decide_eq_true_eq] at h ⊢ <;> omega

/-- The load value of an activation is within R28 (R161, R185). -/
theorem glowOk_full (d : DsParams) (k : KHz) : glowOk d (k.toNat * 100) k = true := by
  have hk : k.toNat < 65536 := k.isLt
  have hmax : k.toNat * 100 ≤ maxGlow := by unfold maxGlow; omega
  cases hm : d.afterglow <;> simp [glowOk, hm, hmax]

/-- A counter that is dark where its unit is absent stays dark when it counts down. -/
theorem ticked_zero {b : Bool} {g : Nat} (h : g = 0) : (if b then g - 1 else g) = 0 := by
  split <;> omega

theorem foldl_runAction_cfg (bits : List CtrlBit) (s : State) : (bits.foldl runAction s).cfg = s.cfg := by
  obtain ⟨_, _, _, _, h, _⟩ := foldl_runAction_spec bits s
  rw [h]

namespace State.Inv

variable {s : State} {d : DsParams}

/-! ## One rule per piece of state -/

theorem dsParams_wf (h : s.Inv) (hd : s.cfg.ds = some d) : d.wf = true :=
  Config.dsParams_wf (Config.wf_of_admits h.config) hd

theorem absentZero (h : s.Inv) (hd : s.cfg.ds = some d) : s.AbsentZero d := (State.absentOk_iff hd).1 h.absent

theorem setAnswer (h : s.Inv) (x : Answer) : (s.setAnswer x).Inv := { h with }

theorem emit (h : s.Inv) (e : Event) : (s.emit e).Inv := { h with }

theorem arrive (h : s.Inv) (rest : List TxWord) : (s.arrive rest).Inv := { h with }

theorem withEvents (h : s.Inv) (es : List Event) : State.Inv { s with events := es } := { h with }

theorem setLatch (h : s.Inv) (hd : s.cfg.ds = some d) (x : BitVec 4) : (s.setLatch x).Inv :=
  { h with absent := State.absentOk_of hd { h.absentZero hd with } }

theorem setDriveMask (h : s.Inv) (hd : s.cfg.ds = some d) (x : BitVec 4) : (s.setDriveMask x).Inv :=
  { h with absent := State.absentOk_of hd { h.absentZero hd with } }

theorem setDiv8 (h : s.Inv) (hd : s.cfg.ds = some d) (x : BitVec 3) : (s.setDiv8 x).Inv :=
  { h with absent := State.absentOk_of hd { h.absentZero hd with } }

/-- R20, R186: the clock bit exists in `EXT` without a fixed speed. -/
theorem setClkSel {e : ExtParams} (h : s.Inv) (hd : s.cfg.ds = some d) (hv : d.variant = .ext e)
    (hf : d.fixedSpeed = none) (x : Bool) : (s.setClkSel x).Inv :=
  { h with absent := State.absentOk_of hd { h.absentZero hd with fixedRate := by simp [hf], clock := by simp [hv] } }

/-- R19: the page register exists in `EXT`. -/
theorem setPage {e : ExtParams} (h : s.Inv) (hd : s.cfg.ds = some d) (hv : d.variant = .ext e) (en : Bool)
    (bank : BitVec 7) : (s.setPage en bank).Inv :=
  { h with absent := State.absentOk_of hd { h.absentZero hd with page := by simp [hv] } }

theorem writePageRam {e : ExtParams} {i : Nat} (h : s.Inv) (hd : s.cfg.ds = some d) (hv : d.variant = .ext e)
    (hi : i < 0x200000) (v : Byte) : (s.setPageRam (s.pageRam.set i v)).Inv := by
  obtain ⟨hwf, hbelow, hclear⟩ := h.pageRam
  exact { h with
    pageRam := ⟨Memory.wf_set _ _ _ hwf, cellsBelow_set _ _ _ _ hi hbelow, hclear⟩
    absent := State.absentOk_of hd { h.absentZero hd with page := by simp [hv] } }

theorem writeSecMem {a : Nat} (h : s.Inv) (hd : s.cfg.ds = some d) (ha : a < 0x10000) (v : Byte) :
    (s.setSecMem (s.secMem.set a v)).Inv := by
  obtain ⟨hwf, hbelow, hclear⟩ := h.secMem
  exact { h with
    secMem := ⟨Memory.wf_set _ _ _ hwf, cellsBelow_set _ _ _ _ ha hbelow, hclear⟩
    absent := State.absentOk_of hd { h.absentZero hd with } }

/-- R124: the cold clear. -/
theorem clearSecMem (h : s.Inv) (hd : s.cfg.ds = some d) :
    (s.setSecMem (s.secMem.clearBelow bridgeMemBase)).Inv := by
  obtain ⟨hwf, hbelow, hclear⟩ := h.secMem
  have hbound : max s.secMem.clearedBelow bridgeMemBase = bridgeMemBase := by
    rcases hclear with hc | hc <;> simp [hc]
  exact { h with
    secMem := ⟨Memory.wf_clearBelow _ _ hwf, cellsBelow_clearBelow _ _ _ hbelow, .inr hbound⟩
    absent := State.absentOk_of hd { h.absentZero hd with } }

/-- R128: any lifecycle state with its two pairs. -/
theorem setLifecycle {l : RunLevel} {w c : Bool} (h : s.Inv) (hd : s.cfg.ds = some d) (hstop : w = false → l = .down)
    (hcold : c = true → w = true ∧ l ≠ .running) :
    State.Inv { s with runLevel := l, workerLive := w, coldPending := c } :=
  { h with
    stopped := hstop
    cold := hcold
    absent := State.absentOk_of hd { h.absentZero hd with } }

/-- R28, R165: any nonzero speed with counters within its bounds, dark where the unit is absent. -/
theorem setRates {k : KHz} {g m : Nat} (h : s.Inv) (hd : s.cfg.ds = some d) (hk : k ≠ 0) (hg : glowOk d g k = true)
    (hm : glowOk d m k = true) (hgide : d.gidePresent = false → g = 0) (hdma : d.variant = .base → m = 0) :
    State.Inv { s with speedKHz := k, gideGlow := g, dmaGlow := m } := by
  have hglows : ∀ d', s.cfg.ds = some d' → glowOk d' g k = true ∧ glowOk d' m k = true := by
    intro d' hd'
    rw [hd, Option.some.injEq] at hd'
    exact hd' ▸ ⟨hg, hm⟩
  exact { h with
    speed := hk
    glows := hglows
    absent := State.absentOk_of hd { h.absentZero hd with gide := hgide, dma := hdma } }

/-- A new module list with the constants of the old one, whose modules are each in order. -/
theorem setMods {mods : List Module} (h : s.Inv) (hp : mods.map (·.params) = s.modParams)
    (hstore : ∀ m ∈ mods, m.storeOk = true) (hstatus : ∀ m ∈ mods, m.statusOk = true) : (s.setMods mods).Inv :=
  { h with
    config := by
      show s.cfg.admits (mods.map (·.params)) = true
      rw [hp]
      exact h.config
    stores := List.all_eq_true.2 hstore
    statuses := List.all_eq_true.2 hstatus }

/-! ## The host bus -/

theorem storeOk_of_mem {m : Module} (h : s.Inv) (hm : m ∈ s.mods) : m.storeOk = true := List.all_eq_true.1 h.stores m hm

theorem statusOk_of_mem {m : Module} (h : s.Inv) (hm : m ∈ s.mods) : m.statusOk = true :=
  List.all_eq_true.1 h.statuses m hm

theorem params_wf_of_mem {m : Module} (h : s.Inv) (hm : m ∈ s.mods) : m.params.wf = true :=
  Config.modulesWf_of_admits h.config _ (State.mem_modParams hm)

theorem busWrite (h : s.Inv) (a : Addr) (v : Byte) : (s.setMods (Machine.busWrite s.cfg a v s.mods).2).Inv := by
  have hall := busWrite_all (P := fun m => m.params.wf = true ∧ m.storeOk = true ∧ m.statusOk = true) s.cfg a v
    (fun m ⟨hwf, hstore, hstatus⟩ =>
      ⟨by simpa using hwf, writeMem_storeOk s.cfg a v hwf hstore, writeMem_statusOk s.cfg a v hstatus⟩)
    fun m hm => ⟨h.params_wf_of_mem hm, h.storeOk_of_mem hm, h.statusOk_of_mem hm⟩
  refine h.setMods (busWrite_params _ _ _ _) (fun m hm => ?_) fun m hm => ?_
  · obtain ⟨_, hstore, _⟩ := hall m hm
    exact hstore
  · obtain ⟨_, _, hstatus⟩ := hall m hm
    exact hstatus

theorem ioRead (h : s.Inv) (p : Port) : (Machine.ioRead s p).Inv := by
  obtain ⟨_, _, hr, _⟩ := ioRead_eq s p
  rw [hr]
  exact h.setAnswer _

/-- R11, R85: the byte goes to a switchable module. -/
theorem statusWrite (h : s.Inv) (slot v : Byte) : (Machine.statusWrite s slot v).Inv := by
  rcases statusWrite_cases slot v (Config.slotsDistinct_of_admits h.config) with
    ⟨_, hw⟩ | ⟨before, m, after, hs, hsw, hw⟩ <;> rw [hw]
  · exact h.setAnswer _
  · have hmem : ∀ x ∈ before ++ m.setStatus v :: after, x = m.setStatus v ∨ x ∈ s.mods := by
      intro x hx
      rw [hs]
      simp only [List.mem_append, List.mem_cons] at hx ⊢
      tauto
    refine (h.setMods (by simp [State.modParams, hs]) (fun x hx => ?_) fun x hx => ?_).setAnswer _
    · rcases hmem x hx with rfl | hx
      · exact (Module.setStatus_storeOk m v).trans (h.storeOk_of_mem (by simp [hs]))
      · exact h.storeOk_of_mem hx
    · rcases hmem x hx with rfl | hx
      · exact (Module.statusOk_iff _).2 (.inl hsw)
      · exact h.statusOk_of_mem hx

theorem hostReset (h : s.Inv) : (Machine.hostReset s).Inv := by
  have hmods : (s.setMods (resetModules s.mods)).Inv := by
    refine h.setMods (resetModules_params _) (fun m hm => ?_) fun m hm => ?_
    · obtain ⟨x, hx, rfl⟩ := mem_resetModules hm
      exact (Module.setStatus_storeOk x _).trans (h.storeOk_of_mem hx)
    · obtain ⟨x, _, rfl⟩ := mem_resetModules hm
      exact (Module.statusOk_iff _).2 (.inr rfl)
  rcases hostReset_cases s with ⟨_, hr⟩ | ⟨d, hd, hr⟩ <;> rw [hr]
  · exact hmods
  · refine (hmods.setLatch hd 0).setLifecycle hd (fun hw => ?_) fun hc => ?_
    · rw [show s.runLevel = .down from h.stopped hw, ite_self]
    · obtain ⟨hw, hl⟩ := h.cold hc
      exact ⟨hw, by split <;> simp [hl]⟩

/-! ## The lifecycle -/

/-- R120 to R123: an action that changes the run level takes it where both pairs of R128 allow. -/
theorem runAction (h : s.Inv) (hd : s.cfg.ds = some d) (b : CtrlBit) : (Machine.runAction s b).Inv := by
  cases b with
  | enable =>
    simp only [Machine.runAction, enableCpu]
    split
    · exact h
    · exact h.setLifecycle hd (l := .startingUp) (w := true) (c := true) (by simp) (by simp)
  | stop => exact h.setLifecycle hd (l := .down) (fun _ => rfl) fun hc => ⟨(h.cold hc).1, by simp⟩
  | reset =>
    simp only [Machine.runAction, requestReset]
    split
    next hrun =>
      exact h.setLifecycle hd (l := .startingUp) (fun hw => absurd (h.stopped hw) (by simp [hrun]))
        fun hc => ⟨(h.cold hc).1, by simp⟩
    next => exact h
  | nmi =>
    simp only [Machine.runAction, requestNmi]
    split
    · exact h.emit _
    · exact h

theorem foldl_runAction (h : s.Inv) (hd : s.cfg.ds = some d) (bits : List CtrlBit) :
    (bits.foldl Machine.runAction s).Inv := by
  induction bits generalizing s with
  | nil => exact h
  | cons b bits ih => exact ih (h.runAction hd b) (by rw [runAction_cfg, hd])

theorem enterLoop (h : s.Inv) (hd : s.cfg.ds = some d) (hen : s.canEnter = true) : (Machine.enterLoop d s).Inv := by
  simp only [State.canEnter, Bool.and_eq_true, beq_iff_eq] at hen
  obtain ⟨hlive, _⟩ := hen
  unfold Machine.enterLoop
  cases hc : s.coldPending with
  | true =>
    exact ((h.clearSecMem hd).setLifecycle hd (l := .running) (w := s.workerLive) (c := false) (by simp [hlive])
      (by simp)).emit _
  | false =>
    exact (h.setLifecycle hd (l := .running) (w := s.workerLive) (c := s.coldPending) (by simp [hlive])
      (by simp [hc])).emit _

theorem exitWorker (h : s.Inv) (hd : s.cfg.ds = some d) (hen : s.canExit = true) :
    ((s.setWorkerLive false).setColdPending false).Inv := by
  simp only [State.canExit, Bool.and_eq_true, beq_iff_eq] at hen
  obtain ⟨_, hdown⟩ := hen
  exact h.setLifecycle hd (fun _ => hdown) (by simp)

theorem containFault (h : s.Inv) (hd : s.cfg.ds = some d) (hen : s.canFault = true) : (Machine.containFault s).Inv := by
  simp only [State.canFault, Bool.and_eq_true, Bool.not_eq_true'] at hen
  obtain ⟨⟨hlive, hcold⟩, _⟩ := hen
  unfold Machine.containFault
  split
  · exact (h.emit _).setLifecycle hd (l := .startingUp) (by simp [hlive]) (by simp [hcold])
  · exact h.emit _

/-! ## Speed, counters, clock -/

theorem glowLoad_gide (h : s.Inv) (hd : s.cfg.ds = some d) (hg : d.gidePresent = true) : (glowLoad s .gide).Inv := by
  obtain ⟨_, hdma⟩ := h.glows d hd
  rw [Machine.glowLoad_gide]
  exact (h.setRates hd h.speed (glowOk_full d s.speedKHz) hdma (by simp [hg])
    (h.absentZero hd).dma).withEvents _

theorem glowLoad_dma {e : ExtParams} (h : s.Inv) (hd : s.cfg.ds = some d) (hv : d.variant = .ext e) :
    (glowLoad s .dma).Inv := by
  obtain ⟨hgide, _⟩ := h.glows d hd
  rw [Machine.glowLoad_dma]
  exact (h.setRates hd h.speed hgide (glowOk_full d s.speedKHz) (h.absentZero hd).gide
    (by simp [hv])).withEvents _

theorem setSpeedTo {k : KHz} (h : s.Inv) (hd : s.cfg.ds = some d) (hk : k ≠ 0) : (Machine.setSpeedTo d s k).Inv := by
  obtain ⟨hgide, hdma⟩ := h.glows d hd
  have habsent := h.absentZero hd
  refine h.setRates hd hk (glowOk_afterSpeed d _ k _ h.speed hgide) (glowOk_afterSpeed d _ k _ h.speed hdma)
    (fun hg => ?_) fun hv => ?_
  · simp [habsent.gide hg]
  · simp [habsent.dma hv]

theorem clockTick (h : s.Inv) (hd : s.cfg.ds = some d) : (Machine.clockTick d s).Inv := by
  obtain ⟨hgide, hdma⟩ := h.glows d hd
  have habsent := h.absentZero hd
  have hdown (b : Bool) (g : Nat) : (if b then g - 1 else g) ≤ g := by split <;> omega
  obtain ⟨es, ht, _⟩ := clockTick_spec d s
  rw [ht]
  exact ((h.setDiv8 hd (s.div8 + 1)).setRates hd h.speed (glowOk_mono hgide (hdown _ _)) (glowOk_mono hdma (hdown _ _))
    (fun hg => ticked_zero (habsent.gide hg)) fun hv => ticked_zero (habsent.dma hv)).withEvents _

/-! ## The control port -/

theorem applyClockBit (h : s.Inv) (hd : s.cfg.ds = some d) (v : Byte) : (Machine.applyClockBit d s v).Inv := by
  rcases applyClockBit_cases d s v with ⟨hsame, _⟩ | ⟨e, hv, hf, _, hnew⟩
  · rwa [hsame]
  · have hk : (if v.getLsbD e.clkBit.val then e.speedB else e.speedA) ≠ 0 := by
      split
      · exact DsParams.speedB_ne_zero (h.dsParams_wf hd) hv
      · exact DsParams.speedA_ne_zero (h.dsParams_wf hd) hv
    rw [hnew]
    exact ((h.setClkSel hd hv hf (v.getLsbD e.clkBit.val)).setSpeedTo hd hk).emit _

theorem controlWrite (h : s.Inv) (hd : s.cfg.ds = some d) (v : Byte) : (Machine.controlWrite d s v).Inv := by
  have hactions : ((decodeEdges d.edgeOrder s.latch v).foldl Machine.runAction (s.setLatch (v.extractLsb' 0 4))).Inv :=
    (h.setLatch hd (v.extractLsb' 0 4)).foldl_runAction hd _
  exact hactions.applyClockBit (by rw [foldl_runAction_cfg]; exact hd) v

theorem ioWrite (h : s.Inv) (p : Port) (v : Byte) : (Machine.ioWrite s p v).Inv := by
  rcases ioWrite_cases s p v with ⟨_, hw⟩ | ⟨d, hd, _, hw⟩ | ⟨d, hd, _, hw⟩ <;> rw [hw]
  · exact h.setAnswer _
  · exact (h.writeSecMem hd (bridgeAddr_lt p) v).setAnswer _
  · exact (h.controlWrite hd v).setAnswer _

/-! ## The secondary side -/

theorem secWrite (h : s.Inv) (hd : s.cfg.ds = some d) (a : Addr) (v : Byte) : (Machine.secWrite s a v).Inv := by
  rcases secWrite_cases s a v with ⟨hhit, hw⟩ | ⟨_, hw⟩ <;> rw [hw]
  · obtain ⟨d', e, hd', hv, _⟩ := pageHit_ext hhit
    exact h.writePageRam hd' hv (pageIndex_lt _ _) v
  · exact h.writeSecMem hd a.isLt v

/-! ## Every operation, every step -/

/-- Each operation writes through one of the rules above; it needs no word that decodes to it. -/
theorem exec (h : s.Inv) (i : Instr) : NextSat State.Inv (Machine.exec i s) := by
  cases i with
  | mrd a => exact .next (h.setAnswer _)
  | mwr a v => exact .next ((h.busWrite a v).setAnswer _)
  | typerd slot =>
    obtain ⟨_, hr⟩ := typeRead_eq s slot
    exact .next (hr ▸ h.setAnswer _)
  | brrd page high => exact .next (h.ioRead _)
  | iord p => exact .next (h.ioRead p)
  | statwr slot v => exact .next (h.statusWrite slot v)
  | dsctl high v => exact .withDs fun d _ => .next (h.ioWrite _ v)
  | brwr page high v => exact .next (h.ioWrite _ v)
  | iowr p v => exact .next (h.ioWrite p v)
  | encpu => exact .withDs fun d hd => .next (h.runAction hd .enable)
  | stopcpu => exact .withDs fun d hd => .next (h.runAction hd .stop)
  | rstcpu => exact .withDs fun d hd => .next (h.runAction hd .reset)
  | nmicpu => exact .withDs fun d hd => .next (h.runAction hd .nmi)
  | hreset => exact .next (h.hostReset.setAnswer _)
  | tick => exact .withDs fun d hd => .next ((h.clockTick hd).setAnswer _)
  | speedchg k => exact .withDs fun d hd => .unless fun hk => (h.setSpeedTo hd hk).setAnswer _
  | smrd a => exact .withDs fun d _ => .next (h.setAnswer _)
  | smwr a v => exact .withDs fun d hd => .next ((h.secWrite hd a v).setAnswer _)
  | siord p => exact .withDs fun d _ => .next ((h.emit _).setAnswer _)
  | drvsel high v => exact .withDs fun d hd => .next (((h.setDriveMask hd _).emit _).setAnswer _)
  | gideact p v =>
    refine .withDs fun d hd => .next (State.Inv.setAnswer (State.Inv.emit ?_ _) _)
    split
    next hg => exact h.glowLoad_gide hd hg
    next => exact h
  | dmaact p v =>
    refine .withDs fun d hd => ?_
    cases hv : d.variant with
    | base => exact .next ((h.emit _).setAnswer _)
    | ext e => exact .next ((h.glowLoad_dma hd hv).setAnswer _)
  | pagewr high v =>
    refine .withDs fun d hd => ?_
    cases hv : d.variant with
    | base => exact .refused
    | ext e => exact .next (((h.setPage hd hv _ _).emit _).setAnswer _)
  | siowr p v => exact .withDs fun d _ => .next ((h.emit _).setAnswer _)
  | loopenter => exact .withDs fun d hd => .guarded fun hen => (h.enterLoop hd hen).setAnswer _
  | wexit => exact .withDs fun d hd => .guarded fun hen => (h.exitWorker hd hen).setAnswer _
  | sfault => exact .withDs fun d hd => .guarded fun hen => (h.containFault hd hen).setAnswer _

end State.Inv

/-- Settles O51: a step is idle, or the arrival of a word, which the invariant does not see, and then an operation. -/
theorem everyStepKeepsInvariant : Obligations.EveryStepKeepsInvariant := by
  intro s t h hstep
  rcases step_next_cases hstep with ⟨_, rfl⟩ | ⟨_, rest, i, _, _, hexec⟩
  · exact h
  · exact (h.arrive rest).exec i t hexec

end Sys2Proof.Machine
end

/-! PROOFS. The memory family (20_memory.md): a RAM's store (R56, R106, R107), reads without side effect (R47, R80, R84, R140,
R146), and the secondary side's independence of the host's (R51, R208). -/

section

namespace Sys2Proof.Machine

/-! ## A RAM and its store (R56, R106, R107) -/

theorem readByte_set_same (id : StoreId) (m : Memory) (a : Nat) (v : Byte) : readByte id (m.set a v) a = v := by
  simp [readByte, Memory.get_set_same]

theorem readByte_set_other (id : StoreId) (m : Memory) {a b : Nat} (v : Byte) (h : a ≠ b) :
    readByte id (m.set a v) b = readByte id m b := by
  simp [readByte, Memory.get_set_other m v h]

/-- R104: the claim test does not look at the store. -/
theorem Module.claimIndex_withStore (m : Module) (c : Config) (a : Addr) (x : Memory) :
    Module.claimIndex { m with store := x } c a = m.claimIndex c a := rfl

section Ram

variable {m : Module} {d : Decoder} {we : Fin 8}

/-- R103, R104: an enabled RAM claims its window. -/
theorem Module.claimIndex_ram (c : Config) {a : Addr} (hk : m.params.kind = .ram d we) (hen : m.enabled = true)
    (hw : d.inWindow m.status a = true) : m.claimIndex c a = some (d.index m.status a) := by
  simp [Module.claimIndex, Module.decoder?, hk, hen, hw]

variable {c : Config} {a : Addr} {i : Nat}

theorem Module.readMem_ram (hk : m.params.kind = .ram d we) (hi : m.claimIndex c a = some i) :
    m.readMem c a = some (readByte (.module m.params.slotId) m.store i) := by
  simp [Module.readMem, hi, hk]

theorem Module.writeMem_ram_protected (v : Byte) (hk : m.params.kind = .ram d we) (hi : m.claimIndex c a = some i)
    (hwe : m.writeEnable we = false) : m.writeMem c a v = (.handledBlocked, m) := by
  simp [Module.writeMem, hi, hk, hwe]

theorem Module.writeMem_ram_enabled (v : Byte) (hk : m.params.kind = .ram d we) (hi : m.claimIndex c a = some i)
    (hwe : m.writeEnable we = true) : m.writeMem c a v = (.handledWritten, { m with store := m.store.set i v }) := by
  simp [Module.writeMem, hi, hk, hwe]

/-- Read after write: the claim is as before, and the byte written is there. -/
theorem Module.readMem_ram_set (v : Byte) (hk : m.params.kind = .ram d we) (hi : m.claimIndex c a = some i) :
    Module.readMem { m with store := m.store.set i v } c a = some v := by
  simp [Module.readMem, Module.claimIndex_withStore, hi, hk, readByte_set_same]

end Ram

/-- Settles O11: the claimed index is the same before and after the write, so read after write at that index decides. -/
theorem ramReadsAndWritesItsStore : Obligations.RamReadsAndWritesItsStore := by
  intro c m d we a v hk hen hw
  have hi : m.claimIndex c a = some (d.index m.status a) := Module.claimIndex_ram c hk hen hw
  exact ⟨Module.readMem_ram hk hi, Module.writeMem_ram_protected v hk hi, fun hwe =>
    ⟨{ m with store := m.store.set (d.index m.status a) v }, Module.writeMem_ram_enabled v hk hi hwe, rfl, rfl,
      Module.readMem_ram_set v hk hi, fun id _ hne => readByte_set_other id m.store v hne.symm⟩⟩

/-! ## Reads (R47) -/

/-- No module's answers are free values (log 6). -/
def State.NoPeripheral (s : State) : Prop := ∀ m ∈ s.mods, m.params.kind ≠ .peripheral

/-- The same state, found by a later transaction. -/
def State.atArrival (s : State) (n : Nat) : State := { s with arrivals := n }

@[simp] theorem State.atArrival_mods (s : State) (n : Nat) : (s.atArrival n).mods = s.mods := rfl

/-- The operation changes the answer alone, and executed again on what it left it answers the same. -/
def ReadIsPure (i : Instr) : Prop :=
  ∀ s t, exec i s = .next t → t = s.setAnswer t.answer ∧
    (s.NoPeripheral → ∀ n, exec i (t.atArrival n) = .next (t.atArrival n))

/-- An operation that answers a function of the state is pure where that function sees neither the last answer nor the
arrival number. Whether it completes depends on the configuration alone. -/
theorem ReadIsPure.of_answer {i : Instr} (f : State → Answer)
    (hexec : ∀ s t, exec i s = .next t → ∀ u : State, u.cfg = s.cfg → exec i u = .next (u.setAnswer (f u)))
    (hagain : ∀ s x n, s.NoPeripheral → f ((s.setAnswer x).atArrival n) = f s) : ReadIsPure i := by
  intro s t h
  have ht : t = s.setAnswer (f s) := by
    have hs := hexec s t h s rfl
    rw [h] at hs
    injection hs
  subst ht
  refine ⟨rfl, fun hp n => ?_⟩
  rw [hexec s _ h ((s.setAnswer (f s)).atArrival n) rfl, hagain s _ n hp]
  rfl

theorem typeRead_eq_setAnswer (s : State) (slot : Byte) : typeRead s slot = s.setAnswer (typeRead s slot).answer := by
  obtain ⟨_, h⟩ := typeRead_eq s slot
  rw [h]
  rfl

theorem ioRead_eq_setAnswer (s : State) (p : Port) : ioRead s p = s.setAnswer (ioRead s p).answer := by
  obtain ⟨_, _, h, _⟩ := ioRead_eq s p
  rw [h]
  rfl

/-- R84: the slot lookup sees the modules alone. -/
theorem typeRead_answer_again (s : State) (x : Answer) (n : Nat) (slot : Byte) :
    (typeRead ((s.setAnswer x).atArrival n) slot).answer = (typeRead s slot).answer := by
  unfold typeRead
  rw [State.atArrival_mods, State.setAnswer_mods]
  cases findSlot s.mods slot <;> rfl

/-- R143: only a peripheral module's answer can depend on when it is asked (log 6). -/
theorem Module.readIO_again {m : Module} (hm : m.params.kind ≠ .peripheral) (s : State) (x : Answer) (n : Nat)
    (p : Port) : m.readIO ((s.setAnswer x).atArrival n) p = m.readIO s p := by
  unfold Module.readIO
  cases hk : m.params.kind with
  | rom dec image => rfl
  | ram dec we => rfl
  | peripheral => exact absurd hk hm
  | ds => rfl

theorem findSome?_congr_of_mem {α β : Type} {f g : α → Option β} {l : List α} (h : ∀ x ∈ l, f x = g x) :
    l.findSome? f = l.findSome? g := by
  induction l with
  | nil => rfl
  | cons x l ih =>
    rw [List.findSome?_cons, List.findSome?_cons, h x (by simp), ih fun y hy => h y (List.mem_cons_of_mem _ hy)]

theorem ioRead_answer_again {s : State} (hp : s.NoPeripheral) (x : Answer) (n : Nat) (p : Port) :
    (ioRead ((s.setAnswer x).atArrival n) p).answer = (ioRead s p).answer := by
  have hsearch : s.mods.findSome? (fun m => m.readIO ((s.setAnswer x).atArrival n) p) =
      s.mods.findSome? (fun m => m.readIO s p) :=
    findSome?_congr_of_mem fun m hm => Module.readIO_again (hp m hm) s x n p
  unfold ioRead
  rw [State.atArrival_mods, State.setAnswer_mods, hsearch]
  cases s.mods.findSome? (fun m => m.readIO s p) <;> rfl

theorem mrd_isPure (a : Addr) : ReadIsPure (.mrd a) :=
  .of_answer (fun s => busRead s.cfg s.mods a) (fun _ _ _ _ _ => rfl) fun _ _ _ _ => rfl

theorem typerd_isPure (slot : Byte) : ReadIsPure (.typerd slot) :=
  .of_answer (fun s => (typeRead s slot).answer)
    (fun _ _ _ u _ => congrArg Host.Outcome.next (typeRead_eq_setAnswer u slot))
    fun s x n _ => typeRead_answer_again s x n slot

theorem iord_isPure (p : Port) : ReadIsPure (.iord p) :=
  .of_answer (fun s => (ioRead s p).answer) (fun _ _ _ u _ => congrArg Host.Outcome.next (ioRead_eq_setAnswer u p))
    fun _ x n hp => ioRead_answer_again hp x n p

/-- R140, R64: `BRRD` is the general search of its port. -/
theorem brrd_isPure (page : BitVec 2) (high : Byte) : ReadIsPure (.brrd page high) :=
  iord_isPure (mkPort high (bridgePort page))

/-- R146, R182: a secondary read completes where there is a disk station. -/
theorem smrd_isPure (a : Addr) : ReadIsPure (.smrd a) := by
  refine .of_answer (fun s => .secRead (secRead s a)) (fun s t h u hu => ?_) fun _ _ _ _ => rfl
  simp only [exec, execSmrd, withDs] at h ⊢
  rw [hu]
  cases hd : s.cfg.ds with
  | none => simp [hd] at h
  | some d => rfl

/-- Settles O58, one read at a time. -/
theorem readsHaveNoSideEffect : Obligations.ReadsHaveNoSideEffect := by
  intro s t i hi h
  rcases hi with ⟨a, rfl⟩ | ⟨slot, rfl⟩ | ⟨page, high, rfl⟩ | ⟨p, rfl⟩ | ⟨a, rfl⟩
  · exact mrd_isPure a s t h
  · exact typerd_isPure slot s t h
  · exact brrd_isPure page high s t h
  · exact iord_isPure p s t h
  · exact smrd_isPure a s t h

/-! ## The host side replaced (R51, R208) -/

/-- The state with another host side: other modules, latch and clock bit. -/
def State.withHostSide (s : State) (h : List Module × BitVec 4 × Bool) : State :=
  { s with mods := h.1, latch := h.2.1, clkSel := h.2.2 }

/-- What an operation answers, with its next state, if it has one, changed. -/
def mapNext (f : State → State) : Host.Outcome State Fault Refusal → Host.Outcome State Fault Refusal
  | .next t => .next (f t)
  | .fault r => .fault r
  | .refused r => .refused r

section HostSide

variable (s : State) (h : List Module × BitVec 4 × Bool)

@[simp] theorem State.withHostSide_hostSide : (s.withHostSide h).hostSide = h := rfl
@[simp] theorem State.withHostSide_cfg : (s.withHostSide h).cfg = s.cfg := rfl
@[simp] theorem State.withHostSide_pageHit (a : Addr) : (s.withHostSide h).pageHit a = s.pageHit a := rfl
@[simp] theorem State.withHostSide_coldPending : (s.withHostSide h).coldPending = s.coldPending := rfl
@[simp] theorem State.withHostSide_runLevel : (s.withHostSide h).runLevel = s.runLevel := rfl

/-- The disk station is a constant, so replacing the host side leaves it. -/
theorem withDs_withHostSide {f g : DsParams → Host.Outcome State Fault Refusal}
    (hfg : ∀ d, g d = mapNext (·.withHostSide h) (f d)) :
    withDs (s.withHostSide h) g = mapNext (·.withHostSide h) (withDs s f) := by
  unfold withDs
  rw [State.withHostSide_cfg]
  cases s.cfg.ds with
  | none => rfl
  | some d => exact hfg d

theorem mapNext_guarded (f : State → State) (b : Prop) [Decidable b] (t : State) (r : Refusal) :
    mapNext f (if b then .next t else .refused r) = if b then .next (f t) else .refused r := by
  split <;> rfl

theorem mapNext_unless (f : State → State) (b : Prop) [Decidable b] (t : State) (r : Refusal) :
    mapNext f (if b then .refused r else .next t) = if b then .refused r else .next (f t) := by
  split <;> rfl

theorem secWrite_withHostSide (a : Addr) (v : Byte) :
    secWrite (s.withHostSide h) a v = (secWrite s a v).withHostSide h := by
  unfold secWrite
  rw [State.withHostSide_pageHit]
  split <;> rfl

theorem glowLoad_withHostSide (i : Indicator) : glowLoad (s.withHostSide h) i = (glowLoad s i).withHostSide h := by
  cases i with
  | gide => rw [glowLoad_gide, glowLoad_gide]; rfl
  | dma => rw [glowLoad_dma, glowLoad_dma]; rfl

theorem clockTick_withHostSide (d : DsParams) : clockTick d (s.withHostSide h) = (clockTick d s).withHostSide h := by
  obtain ⟨_, hs, rfl⟩ := clockTick_spec d s
  obtain ⟨_, hh, rfl⟩ := clockTick_spec d (s.withHostSide h)
  rw [hs, hh]
  rfl

theorem enterLoop_withHostSide (d : DsParams) : enterLoop d (s.withHostSide h) = (enterLoop d s).withHostSide h := by
  unfold enterLoop
  rw [State.withHostSide_coldPending]
  split <;> rfl

theorem containFault_withHostSide : containFault (s.withHostSide h) = (containFault s).withHostSide h := by
  unfold containFault
  rw [State.withHostSide_runLevel]
  split <;> rfl

/-- An operation of the clock, the secondary CPU or run control commutes with replacing the host side: it goes through
shared operations that do. `SIORD` does too, as both executions take the same arrival number (log 7). -/
theorem exec_withHostSide {i : Instr} (hi : i.agent ≠ .host) :
    exec i (s.withHostSide h) = mapNext (·.withHostSide h) (exec i s) := by
  cases i with
  | mrd | mwr | typerd | brrd | iord | statwr | dsctl | brwr | iowr => exact absurd rfl hi
  | encpu | stopcpu | rstcpu | nmicpu | hreset => exact absurd rfl hi
  | tick => exact withDs_withHostSide s h fun d => by rw [clockTick_withHostSide]; rfl
  | speedchg k => exact withDs_withHostSide s h fun d => by rw [mapNext_unless]; rfl
  | smrd a => exact withDs_withHostSide s h fun d => rfl
  | smwr a v => exact withDs_withHostSide s h fun d => by rw [secWrite_withHostSide]; rfl
  | siord p => exact withDs_withHostSide s h fun d => rfl
  | drvsel high v => exact withDs_withHostSide s h fun d => rfl
  | gideact p v =>
    refine withDs_withHostSide s h fun d => ?_
    cases d.gidePresent with
    | true => simp only [if_true, glowLoad_withHostSide]; rfl
    | false => rfl
  | dmaact p v =>
    refine withDs_withHostSide s h fun d => ?_
    cases d.variant with
    | base => rfl
    | ext e => simp only [glowLoad_withHostSide]; rfl
  | pagewr high v =>
    refine withDs_withHostSide s h fun d => ?_
    cases d.variant with
    | base => rfl
    | ext e => rfl
  | siowr p v => exact withDs_withHostSide s h fun d => rfl
  | loopenter => exact withDs_withHostSide s h fun d => by rw [mapNext_guarded, enterLoop_withHostSide]; rfl
  | wexit => exact withDs_withHostSide s h fun d => by rw [mapNext_guarded]; rfl
  | sfault => exact withDs_withHostSide s h fun d => by rw [mapNext_guarded, containFault_withHostSide]; rfl

end HostSide

/-- Settles O55: the next state of the commuting execution. -/
theorem secondarySideIgnoresHostSide : Obligations.SecondarySideIgnoresHostSide := by
  intro i s t mods latch clk hi _ hexec
  have hcomm := exec_withHostSide s (mods, latch, clk) hi
  rw [hexec] at hcomm
  exact hcomm

end Sys2Proof.Machine
end

/-! PROOFS. The encoding family (30_encoding.md), the words: what a word of each kind decodes to (R62, R67), the ports that R5
keeps apart (R64, R65), that decode inverts encode, and which words and operations are refused. -/

section

namespace Sys2Proof

open Sys2Proof.Machine

/-! ## The port numbers R5 keeps apart -/

section Ports

variable {c : Config} {d : DsParams}

theorem Config.statusPort_not_bridge (h : c.wf = true) : isBridgePort c.statusPort = false := by
  simp only [Config.wf, Bool.and_eq_true, Bool.not_eq_true'] at h
  obtain ⟨hstatus, _⟩ := h
  exact hstatus

theorem Config.ctrlPort_ne_statusPort (h : c.wf = true) (hd : c.ds = some d) : d.ctrlPort ≠ c.statusPort := by
  simp only [Config.wf, hd, Bool.and_eq_true, bne_iff_ne] at h
  obtain ⟨_, _, hne⟩ := h
  exact hne.symm

theorem DsParams.ctrlPort_not_bridge (h : d.wf = true) : isBridgePort d.ctrlPort = false := by
  simp only [DsParams.wf, Bool.and_eq_true, Bool.not_eq_true'] at h
  obtain ⟨⟨⟨⟨⟨⟨⟨⟨⟨hctrl, _⟩, _⟩, _⟩, _⟩, _⟩, _⟩, _⟩, _⟩, _⟩ := h
  exact hctrl

theorem DsParams.gideActPorts_not_drvsel (h : d.wf = true) : d.gideActPorts.contains d.drvselPort = false := by
  simp only [DsParams.wf, Bool.and_eq_true, Bool.not_eq_true'] at h
  obtain ⟨⟨⟨⟨_, hgide⟩, _⟩, _⟩, _⟩ := h
  exact hgide

variable {e : ExtParams}

/-- R5, table 4.3: the ports of the `EXT` units are none of the other units'. -/
theorem DsParams.extPorts_apart (h : d.wf = true) (he : d.variant = .ext e) :
    d.drvselPort ∉ e.dmaActPorts ∧ (∀ x ∈ e.dmaActPorts, x ∉ d.gideActPorts) ∧ e.pagePort ≠ d.drvselPort ∧
      e.pagePort ∉ d.gideActPorts ∧ e.pagePort ∉ e.dmaActPorts := by
  simp only [DsParams.wf, he, Bool.and_eq_true] at h
  obtain ⟨_, hext⟩ := h
  simp only [DsParams.extWf, Bool.and_eq_true, Bool.not_eq_true', List.any_eq_false, List.contains_eq_mem,
    decide_eq_true_eq, decide_eq_false_iff_not, bne_iff_ne] at hext
  obtain ⟨⟨⟨⟨⟨_, hdmaDrv⟩, hdmaGide⟩, hpageDrv⟩, hpageGide⟩, hpageDma⟩ := hext
  exact ⟨hdmaDrv, hdmaGide, hpageDrv, hpageGide, hpageDma⟩

theorem DsParams.claimsWritePort_eq_false_iff (p : Port) :
    d.claimsWritePort p = false ↔ portLow p ≠ d.ctrlPort ∧ isBridgePort (portLow p) = false := by
  simp [DsParams.claimsWritePort]

theorem DsParams.isDrvsel_iff (p : Port) : d.isDrvsel p = true ↔ portLow p = d.drvselPort := by
  simp [DsParams.isDrvsel]

theorem DsParams.isGideAct_iff (p : Port) :
    d.isGideAct p = true ↔ d.gidePresent = true ∧ portLow p ∈ d.gideActPorts := by
  simp [DsParams.isGideAct]

theorem DsParams.isDmaAct_iff (p : Port) :
    d.isDmaAct p = true ↔ ∃ e, d.variant = .ext e ∧ portLow p ∈ e.dmaActPorts := by
  cases hv : d.variant <;> simp [DsParams.isDmaAct, DsParams.ext?, hv]

theorem DsParams.isPagePort_iff (p : Port) : d.isPagePort p = true ↔ ∃ e, d.variant = .ext e ∧ portLow p = e.pagePort := by
  cases hv : d.variant <;> simp [DsParams.isPagePort, DsParams.ext?, hv]

theorem DsParams.ext?_eq_some_iff : d.ext? = some e ↔ d.variant = .ext e := by
  cases hv : d.variant <;> simp [DsParams.ext?, hv]

/-- R65: the four units of a secondary write are tried in order, and in a configuration that meets R5 no port is of two. -/
theorem DsParams.not_isDrvsel_of_gide {p : Port} (h : d.wf = true) (hp : d.isGideAct p = true) :
    d.isDrvsel p = false := by
  obtain ⟨_, hmem⟩ := (DsParams.isGideAct_iff p).1 hp
  have hnot : d.drvselPort ∉ d.gideActPorts := by simpa using DsParams.gideActPorts_not_drvsel h
  rw [← Bool.not_eq_true, DsParams.isDrvsel_iff]
  exact fun heq => hnot (heq ▸ hmem)

theorem DsParams.not_earlier_of_dma {p : Port} (h : d.wf = true) (hp : d.isDmaAct p = true) :
    d.isDrvsel p = false ∧ d.isGideAct p = false := by
  obtain ⟨e, he, hmem⟩ := (DsParams.isDmaAct_iff p).1 hp
  obtain ⟨hdrv, hgide, _⟩ := DsParams.extPorts_apart h he
  rw [← Bool.not_eq_true, ← Bool.not_eq_true, DsParams.isDrvsel_iff, DsParams.isGideAct_iff]
  exact ⟨fun heq => hdrv (heq ▸ hmem), fun ⟨_, hg⟩ => hgide _ hmem hg⟩

theorem DsParams.not_earlier_of_page {p : Port} (h : d.wf = true) (hp : d.isPagePort p = true) :
    d.isDrvsel p = false ∧ d.isGideAct p = false ∧ d.isDmaAct p = false := by
  obtain ⟨e, he, heq⟩ := (DsParams.isPagePort_iff p).1 hp
  obtain ⟨_, _, hdrv, hgide, hdma⟩ := DsParams.extPorts_apart h he
  rw [← Bool.not_eq_true, ← Bool.not_eq_true, ← Bool.not_eq_true, DsParams.isDrvsel_iff, DsParams.isGideAct_iff,
    DsParams.isDmaAct_iff, heq]
  refine ⟨hdrv, fun ⟨_, hg⟩ => hgide hg, fun ⟨e', he', hmem⟩ => ?_⟩
  obtain rfl : e = e' := by simpa [he] using he'
  exact hdma hmem

end Ports

/-! ## The sub-decodes (R64, R65), a rule per branch -/

section Classify

variable {c : Config} {d : DsParams} {p : Port}

theorem classifyIoRead_status (h : portLow p = c.statusPort) : classifyIoRead c p = .typerd (portHigh p) := if_pos h

theorem classifyIoRead_bridge (h : portLow p ≠ c.statusPort) (hb : (c.ds.isSome && isBridgePort (portLow p)) = true) :
    classifyIoRead c p = .brrd ((portLow p).extractLsb' 0 2) (portHigh p) := by
  rw [classifyIoRead, if_neg h, if_pos hb]

theorem classifyIoRead_general (h : portLow p ≠ c.statusPort)
    (hb : (c.ds.isSome && isBridgePort (portLow p)) = false) : classifyIoRead c p = .iord p := by
  rw [classifyIoRead, if_neg h, if_neg (by simp [hb])]

variable {v : Byte}

theorem classifyIoWrite_status (h : portLow p = c.statusPort) : classifyIoWrite c p v = .statwr (portHigh p) v := if_pos h

theorem classifyIoWrite_control (h : portLow p ≠ c.statusPort) (hd : c.ds = some d) (hp : portLow p = d.ctrlPort) :
    classifyIoWrite c p v = .dsctl (portHigh p) v := by
  simp only [classifyIoWrite, if_neg h, hd, if_pos hp]

theorem classifyIoWrite_bridge (h : portLow p ≠ c.statusPort) (hd : c.ds = some d) (hp : portLow p ≠ d.ctrlPort)
    (hb : isBridgePort (portLow p) = true) :
    classifyIoWrite c p v = .brwr ((portLow p).extractLsb' 0 2) (portHigh p) v := by
  simp only [classifyIoWrite, if_neg h, hd, if_neg hp, if_pos hb]

theorem classifyIoWrite_general (h : portLow p ≠ c.statusPort) (hp : c.ds.any (·.claimsWritePort p) = false) :
    classifyIoWrite c p v = .iowr p v := by
  rw [classifyIoWrite, if_neg h]
  cases hd : c.ds with
  | none => rfl
  | some d =>
    obtain ⟨hctrl, hbridge⟩ := (DsParams.claimsWritePort_eq_false_iff p).1 (by simpa [hd] using hp)
    simp only [if_neg hctrl, hbridge, Bool.false_eq_true, if_false]

theorem classifySecWrite_drvsel (h : d.isDrvsel p = true) : classifySecWrite d p v = .drvsel (portHigh p) v := if_pos h

theorem classifySecWrite_gide (h : d.isDrvsel p = false) (hg : d.isGideAct p = true) :
    classifySecWrite d p v = .gideact p v := by
  simp [classifySecWrite, h, hg]

theorem classifySecWrite_dma (h : d.isDrvsel p = false) (hg : d.isGideAct p = false) (hm : d.isDmaAct p = true) :
    classifySecWrite d p v = .dmaact p v := by
  simp [classifySecWrite, h, hg, hm]

theorem classifySecWrite_page (h : d.isDrvsel p = false) (hg : d.isGideAct p = false) (hm : d.isDmaAct p = false)
    (hp : d.isPagePort p = true) : classifySecWrite d p v = .pagewr (portHigh p) v := by
  simp [classifySecWrite, h, hg, hm, hp]

theorem classifySecWrite_plain (h : d.isDrvsel p = false) (hg : d.isGideAct p = false) (hm : d.isDmaAct p = false)
    (hp : d.isPagePort p = false) : classifySecWrite d p v = .siowr p v := by
  simp [classifySecWrite, h, hg, hm, hp]

end Classify

/-! ## The opcode map (R62, R67), a rule per kind -/

/-- R60: a word is its three fields. -/
theorem txPack_fields (w : TxWord) : txPack (txKind w) (txAddr w) (txData w) = w := by
  apply BitVec.eq_of_getLsbD_eq
  intro i hi
  simp only [txPack, txKind, txAddr, txData, BitVec.getLsbD_append, BitVec.getLsbD_extractLsb']
  by_cases hdata : i < 8
  · simp [hdata]
  · by_cases haddr : i < 24
    · simp [hdata, show i - 8 < 16 by omega, show 8 + (i - 8) = i by omega]
    · simp [hdata, show ¬i - 8 < 16 by omega, show i - 8 - 16 < 4 by omega, show 24 + (i - 8 - 16) = i by omega]

/-- The sixteen kinds (R62, R67). -/
theorem txKind_cases (k : BitVec 4) :
    k = 0x0 ∨ k = 0x1 ∨ k = 0x2 ∨ k = 0x3 ∨ k = 0x4 ∨ k = 0x5 ∨ k = 0x6 ∨ k = 0x7 ∨
      k = 0x8 ∨ k = 0x9 ∨ k = 0xA ∨ k = 0xB ∨ k = 0xC ∨ k = 0xD ∨ k = 0xE ∨ k = 0xF := by
  revert k
  decide

@[simp] theorem withDiskStation_none {c : Config} {f : DsParams → Except DecodeRefusal Instr} (hd : c.ds = none) :
    withDiskStation c f = .error .noDiskStation := by
  rw [withDiskStation, hd]

@[simp] theorem withDiskStation_some {c : Config} {d : DsParams} {f : DsParams → Except DecodeRefusal Instr}
    (hd : c.ds = some d) : withDiskStation c f = f d := by
  rw [withDiskStation, hd]

section Kinds

variable (c : Config) (a : BitVec 16) (v : Byte)

theorem decode_memRead : decode c (txPack 0x0 a v) = .ok (.mrd a) := by simp [decode]
theorem decode_memWrite : decode c (txPack 0x1 a v) = .ok (.mwr a v) := by simp [decode]
theorem decode_ioRead : decode c (txPack 0x2 a v) = .ok (classifyIoRead c a) := by simp [decode]
theorem decode_ioWrite : decode c (txPack 0x3 a v) = .ok (classifyIoWrite c a v) := by simp [decode]
theorem decode_hostReset : decode c (txPack 0x4 a v) = .ok .hreset := by simp [decode]
theorem decode_clockTick : decode c (txPack 0x5 a v) = withDiskStation c fun _ => .ok .tick := by simp [decode]
theorem decode_speedChange : decode c (txPack 0x6 a v) =
    withDiskStation c fun _ => if a = 0 then .error .zeroSpeed else .ok (.speedchg a) := by simp [decode]
theorem decode_secRead : decode c (txPack 0x8 a v) = withDiskStation c fun _ => .ok (.smrd a) := by simp [decode]
theorem decode_secWrite : decode c (txPack 0x9 a v) = withDiskStation c fun _ => .ok (.smwr a v) := by simp [decode]
theorem decode_secIoRead : decode c (txPack 0xA a v) = withDiskStation c fun _ => .ok (.siord a) := by simp [decode]
theorem decode_secIoWrite : decode c (txPack 0xB a v) = withDiskStation c fun d => .ok (classifySecWrite d a v) := by
  simp [decode]
theorem decode_loopEnter : decode c (txPack 0xC a v) = withDiskStation c fun _ => .ok .loopenter := by simp [decode]
theorem decode_workerExit : decode c (txPack 0xD a v) = withDiskStation c fun _ => .ok .wexit := by simp [decode]
theorem decode_secFault : decode c (txPack 0xE a v) = withDiskStation c fun _ => .ok .sfault := by simp [decode]
theorem decode_reserved7 : decode c (txPack 0x7 a v) = .error .reservedKind := by simp [decode]
theorem decode_reservedF : decode c (txPack 0xF a v) = .error .reservedKind := by simp [decode]

end Kinds

/-! ## Decode inverts encode (R60 to R65, R68) -/

/-- The canonical word of an operation exists and decodes to it. -/
def HasWord (c : Config) (i : Instr) : Prop := ∃ w, encode c i = some w ∧ decode c w = .ok i

section HasWord

variable {c : Config}

theorem typerd_hasWord (slot : Byte) : HasWord c (.typerd slot) :=
  ⟨_, rfl, by rw [decode_ioRead, classifyIoRead_status (portLow_mkPort _ _), portHigh_mkPort]⟩

theorem brrd_hasWord (page : BitVec 2) (high : Byte) (h : c.wf = true) (hds : c.ds.isSome = true) :
    HasWord c (.brrd page high) := by
  have hne : bridgePort page ≠ c.statusPort := bridgePort_ne (Config.statusPort_not_bridge h)
  exact ⟨_, rfl, by rw [decode_ioRead, classifyIoRead_bridge (by simpa using hne) (by simpa using hds)]; simp⟩

theorem iord_hasWord (p : Port) (h : (Instr.iord p).wellFormed c = true) : HasWord c (.iord p) := by
  simp only [Instr.wellFormed, Bool.and_eq_true, bne_iff_ne, Bool.not_eq_true'] at h
  obtain ⟨hstatus, hbridge⟩ := h
  exact ⟨_, rfl, by rw [decode_ioRead, classifyIoRead_general hstatus hbridge]⟩

theorem dsctl_hasWord {d : DsParams} (high v : Byte) (h : c.wf = true) (hd : c.ds = some d) :
    HasWord c (.dsctl high v) := by
  have hne : d.ctrlPort ≠ c.statusPort := Config.ctrlPort_ne_statusPort h hd
  refine ⟨txPack 0x3 (mkPort high d.ctrlPort) v, by simp [encode, hd], ?_⟩
  rw [decode_ioWrite, classifyIoWrite_control (by simpa using hne) hd (portLow_mkPort _ _), portHigh_mkPort]

theorem brwr_hasWord {d : DsParams} (page : BitVec 2) (high v : Byte) (h : c.wf = true) (hd : c.ds = some d) :
    HasWord c (.brwr page high v) := by
  have hstatus : bridgePort page ≠ c.statusPort := bridgePort_ne (Config.statusPort_not_bridge h)
  have hctrl : bridgePort page ≠ d.ctrlPort :=
    bridgePort_ne (DsParams.ctrlPort_not_bridge (Config.dsParams_wf h hd))
  refine ⟨_, rfl, ?_⟩
  rw [decode_ioWrite, classifyIoWrite_bridge (by simpa using hstatus) hd (by simpa using hctrl) (by simp)]
  simp

theorem iowr_hasWord (p : Port) (v : Byte) (h : (Instr.iowr p v).wellFormed c = true) : HasWord c (.iowr p v) := by
  simp only [Instr.wellFormed, Bool.and_eq_true, bne_iff_ne, Bool.not_eq_true'] at h
  obtain ⟨hstatus, hclaims⟩ := h
  exact ⟨_, rfl, by rw [decode_ioWrite, classifyIoWrite_general hstatus hclaims]⟩

/-- An operation of a kind that exists with a disk station only (R62). -/
theorem HasWord.of_station {i : Instr} {k : BitVec 4} {a : BitVec 16} {v : Byte}
    {f : DsParams → Except DecodeRefusal Instr} (hds : c.ds.isSome = true) (hw : encode c i = some (txPack k a v))
    (hdec : decode c (txPack k a v) = withDiskStation c f) (hf : ∀ d, c.ds = some d → f d = .ok i) : HasWord c i := by
  obtain ⟨d, hd⟩ := Option.isSome_iff_exists.1 hds
  exact ⟨_, hw, by rw [hdec, withDiskStation_some hd, hf d hd]⟩

/-- A secondary write that the sub-decode of its word gives back (R65). -/
theorem HasWord.of_classifySecWrite {d : DsParams} {i : Instr} {p : Port} {v : Byte} (hd : c.ds = some d)
    (hw : encode c i = some (txPack 0xB p v)) (hi : classifySecWrite d p v = i) : HasWord c i :=
  ⟨_, hw, by rw [decode_secIoWrite, withDiskStation_some hd, hi]⟩

theorem drvsel_hasWord {d : DsParams} (high v : Byte) (hd : c.ds = some d) : HasWord c (.drvsel high v) := by
  have hp : d.isDrvsel (mkPort high d.drvselPort) = true := by simp [DsParams.isDrvsel_iff]
  exact .of_classifySecWrite hd (by simp only [encode, hd]; rfl)
    (by rw [classifySecWrite_drvsel hp, portHigh_mkPort])

theorem gideact_hasWord {d : DsParams} {p : Port} (v : Byte) (h : c.wf = true) (hd : c.ds = some d)
    (hp : d.isGideAct p = true) : HasWord c (.gideact p v) :=
  .of_classifySecWrite hd rfl
    (classifySecWrite_gide (DsParams.not_isDrvsel_of_gide (Config.dsParams_wf h hd) hp) hp)

theorem dmaact_hasWord {d : DsParams} {p : Port} (v : Byte) (h : c.wf = true) (hd : c.ds = some d)
    (hp : d.isDmaAct p = true) : HasWord c (.dmaact p v) := by
  obtain ⟨hdrv, hgide⟩ := DsParams.not_earlier_of_dma (Config.dsParams_wf h hd) hp
  exact .of_classifySecWrite hd rfl (classifySecWrite_dma hdrv hgide hp)

theorem pagewr_hasWord {d : DsParams} {e : ExtParams} (high v : Byte) (h : c.wf = true) (hd : c.ds = some d)
    (he : d.variant = .ext e) : HasWord c (.pagewr high v) := by
  have hp : d.isPagePort (mkPort high e.pagePort) = true := (DsParams.isPagePort_iff _).2 ⟨e, he, portLow_mkPort _ _⟩
  obtain ⟨hdrv, hgide, hdma⟩ := DsParams.not_earlier_of_page (Config.dsParams_wf h hd) hp
  refine HasWord.of_classifySecWrite hd (p := mkPort high e.pagePort) (v := v) ?_ ?_
  · simp [encode, hd, DsParams.ext?_eq_some_iff.2 he]
  · rw [classifySecWrite_page hdrv hgide hdma hp, portHigh_mkPort]

theorem siowr_hasWord {d : DsParams} {p : Port} (v : Byte) (hd : c.ds = some d)
    (hp : (d.isDrvsel p || d.isGideAct p || d.isDmaAct p || d.isPagePort p) = false) : HasWord c (.siowr p v) := by
  simp only [Bool.or_eq_false_iff] at hp
  obtain ⟨⟨⟨hdrv, hgide⟩, hdma⟩, hpage⟩ := hp
  exact .of_classifySecWrite hd rfl (classifySecWrite_plain hdrv hgide hdma hpage)

end HasWord

/-- Settles O1, one operation at a time: its operands put into its word's fields come back, and R5 keeps every port from
being taken for an earlier row's. -/
theorem decodeInvertsEncode : Obligations.DecodeInvertsEncode := by
  intro c i hc hi ht
  change HasWord c i
  cases i with
  | encpu | stopcpu | rstcpu | nmicpu => exact absurd ht Bool.false_ne_true
  | mrd a => exact ⟨_, rfl, decode_memRead c a 0⟩
  | mwr a v => exact ⟨_, rfl, decode_memWrite c a v⟩
  | typerd slot => exact typerd_hasWord slot
  | brrd page high => exact brrd_hasWord page high hc hi
  | iord p => exact iord_hasWord p hi
  | statwr slot v => exact ⟨_, rfl, decode_statwr c slot v⟩
  | dsctl high v =>
    obtain ⟨d, hd⟩ := Option.isSome_iff_exists.1 hi
    exact dsctl_hasWord high v hc hd
  | brwr page high v =>
    obtain ⟨d, hd⟩ := Option.isSome_iff_exists.1 hi
    exact brwr_hasWord page high v hc hd
  | iowr p v => exact iowr_hasWord p v hi
  | hreset => exact ⟨_, rfl, decode_hostReset c 0 0⟩
  | tick => exact .of_station hi rfl (decode_clockTick c 0 0) fun _ _ => rfl
  | speedchg k =>
    simp only [Instr.wellFormed, Bool.and_eq_true, bne_iff_ne] at hi
    obtain ⟨hds, hk⟩ := hi
    exact .of_station hds rfl (decode_speedChange c k 0) fun _ _ => if_neg hk
  | smrd a => exact .of_station hi rfl (decode_secRead c a 0) fun _ _ => rfl
  | smwr a v => exact .of_station hi rfl (decode_secWrite c a v) fun _ _ => rfl
  | siord p => exact .of_station hi rfl (decode_secIoRead c p 0) fun _ _ => rfl
  | drvsel high v =>
    obtain ⟨d, hd⟩ := Option.isSome_iff_exists.1 hi
    exact drvsel_hasWord high v hd
  | gideact p v =>
    obtain ⟨d, hd, hp⟩ := (Option.any_eq_true _ _).1 hi
    exact gideact_hasWord v hc hd hp
  | dmaact p v =>
    obtain ⟨d, hd, hp⟩ := (Option.any_eq_true _ _).1 hi
    exact dmaact_hasWord v hc hd hp
  | pagewr high v =>
    obtain ⟨e, he⟩ := Option.isSome_iff_exists.1 hi
    obtain ⟨d, hd, he⟩ := Option.bind_eq_some_iff.1 he
    exact pagewr_hasWord high v hc hd (DsParams.ext?_eq_some_iff.1 he)
  | siowr p v =>
    obtain ⟨d, hd, hp⟩ := (Option.any_eq_true _ _).1 hi
    exact siowr_hasWord v hd (by simpa using hp)
  | loopenter => exact .of_station hi rfl (decode_loopEnter c 0 0) fun _ _ => rfl
  | wexit => exact .of_station hi rfl (decode_workerExit c 0 0) fun _ _ => rfl
  | sfault => exact .of_station hi rfl (decode_secFault c 0 0) fun _ _ => rfl

/-! ## What the decoder answers (R64, R65, R68) -/

/-- The operation is a transaction the configuration has, and this is its canonical word. -/
structure CanonicalWord (c : Config) (i : Instr) (w : TxWord) : Prop where
  wellFormed : i.wellFormed c = true
  isTransaction : i.isTransaction = true
  encode : encode c i = some w

theorem classifyIoRead_canonicalWord (c : Config) (p : Port) :
    CanonicalWord c (classifyIoRead c p) (txPack 0x2 p 0) := by
  by_cases hstatus : portLow p = c.statusPort
  · rw [classifyIoRead_status hstatus]
    exact ⟨rfl, rfl, by rw [encode, ← hstatus, mkPort_portHigh_portLow]⟩
  · cases hbridge : c.ds.isSome && isBridgePort (portLow p) with
    | false =>
      rw [classifyIoRead_general hstatus hbridge]
      exact ⟨by simp [Instr.wellFormed, hstatus, hbridge], rfl, rfl⟩
    | true =>
      rw [classifyIoRead_bridge hstatus hbridge]
      obtain ⟨hds, hport⟩ := (Bool.and_eq_true _ _).mp hbridge
      exact ⟨hds, rfl, by rw [encode, bridgePort_extractLsb' hport, mkPort_portHigh_portLow]⟩

theorem classifyIoWrite_canonicalWord (c : Config) (p : Port) (v : Byte) :
    CanonicalWord c (classifyIoWrite c p v) (txPack 0x3 p v) := by
  by_cases hstatus : portLow p = c.statusPort
  · rw [classifyIoWrite_status hstatus]
    exact ⟨rfl, rfl, by rw [encode, ← hstatus, mkPort_portHigh_portLow]⟩
  · cases hclaims : c.ds.any (·.claimsWritePort p) with
    | false =>
      rw [classifyIoWrite_general hstatus hclaims]
      exact ⟨by simp [Instr.wellFormed, hstatus, hclaims], rfl, rfl⟩
    | true =>
      obtain ⟨d, hd, hport⟩ := (Option.any_eq_true _ _).1 hclaims
      by_cases hctrl : portLow p = d.ctrlPort
      · rw [classifyIoWrite_control hstatus hd hctrl]
        exact ⟨by simp [Instr.wellFormed, hd], rfl, by simp [encode, hd, ← hctrl]⟩
      · have hbridge : isBridgePort (portLow p) = true := by
          simpa [DsParams.claimsWritePort, hctrl] using hport
        rw [classifyIoWrite_bridge hstatus hd hctrl hbridge]
        exact ⟨by simp [Instr.wellFormed, hd], rfl,
          by rw [encode, bridgePort_extractLsb' hbridge, mkPort_portHigh_portLow]⟩

theorem classifySecWrite_canonicalWord {c : Config} {d : DsParams} (hd : c.ds = some d) (p : Port) (v : Byte) :
    CanonicalWord c (classifySecWrite d p v) (txPack 0xB p v) := by
  cases hdrv : d.isDrvsel p with
  | true =>
    have hport : portLow p = d.drvselPort := (DsParams.isDrvsel_iff p).1 hdrv
    rw [classifySecWrite_drvsel hdrv]
    exact ⟨by simp [Instr.wellFormed, hd], rfl, by simp [encode, hd, ← hport]⟩
  | false =>
  cases hgide : d.isGideAct p with
  | true =>
    rw [classifySecWrite_gide hdrv hgide]
    exact ⟨by simp [Instr.wellFormed, hd, hgide], rfl, rfl⟩
  | false =>
  cases hdma : d.isDmaAct p with
  | true =>
    rw [classifySecWrite_dma hdrv hgide hdma]
    exact ⟨by simp [Instr.wellFormed, hd, hdma], rfl, rfl⟩
  | false =>
  cases hpage : d.isPagePort p with
  | true =>
    obtain ⟨e, he, hport⟩ := (DsParams.isPagePort_iff p).1 hpage
    have hext : d.ext? = some e := DsParams.ext?_eq_some_iff.2 he
    rw [classifySecWrite_page hdrv hgide hdma hpage]
    exact ⟨by simp [Instr.wellFormed, hd, hext], rfl, by simp [encode, hd, hext, ← hport]⟩
  | false =>
    rw [classifySecWrite_plain hdrv hgide hdma hpage]
    exact ⟨by simp [Instr.wellFormed, hd, hdrv, hgide, hdma, hpage], rfl, rfl⟩

theorem withDiskStation_ok {c : Config} {f : DsParams → Except DecodeRefusal Instr} {i : Instr}
    (h : withDiskStation c f = .ok i) : ∃ d, c.ds = some d ∧ f d = .ok i := by
  cases hd : c.ds with
  | none => simp [withDiskStation_none hd] at h
  | some d => exact ⟨d, rfl, by rw [← h, withDiskStation_some hd]⟩

/-- A kind that needs the disk station for its existence alone. -/
theorem withDiskStation_const_ok {c : Config} {i j : Instr} (h : withDiskStation c (fun _ => .ok j) = .ok i) :
    c.ds.isSome = true ∧ j = i := by
  obtain ⟨d, hd, hj⟩ := withDiskStation_ok h
  exact ⟨by rw [hd]; rfl, Except.ok.inj hj⟩

/-- What a word decodes to has a canonical word of the same kind that decodes alike: the fields a kind uses are kept, the
others are zero (R60). -/
theorem decode_canonicalWord {c : Config} {k : BitVec 4} {a : BitVec 16} {v : Byte} {i : Instr}
    (h : decode c (txPack k a v) = .ok i) :
    ∃ a' v', CanonicalWord c i (txPack k a' v') ∧ decode c (txPack k a' v') = .ok i := by
  rcases txKind_cases k with rfl | rfl | rfl | rfl | rfl | rfl | rfl | rfl | rfl | rfl | rfl | rfl | rfl | rfl | rfl | rfl
  · rw [decode_memRead] at h
    cases h
    exact ⟨a, 0, ⟨rfl, rfl, rfl⟩, decode_memRead c a 0⟩
  · rw [decode_memWrite] at h
    cases h
    exact ⟨a, v, ⟨rfl, rfl, rfl⟩, decode_memWrite c a v⟩
  · rw [decode_ioRead] at h
    cases h
    exact ⟨a, 0, classifyIoRead_canonicalWord c a, decode_ioRead c a 0⟩
  · rw [decode_ioWrite] at h
    cases h
    exact ⟨a, v, classifyIoWrite_canonicalWord c a v, decode_ioWrite c a v⟩
  · rw [decode_hostReset] at h
    cases h
    exact ⟨0, 0, ⟨rfl, rfl, rfl⟩, decode_hostReset c 0 0⟩
  · rw [decode_clockTick] at h
    obtain ⟨hds, rfl⟩ := withDiskStation_const_ok h
    exact ⟨0, 0, ⟨hds, rfl, rfl⟩, (decode_clockTick c 0 0).trans h⟩
  · rw [decode_speedChange] at h
    obtain ⟨d, hd, hok⟩ := withDiskStation_ok h
    by_cases ha : a = 0
    · simp [ha] at hok
    · rw [if_neg ha] at hok
      cases hok
      exact ⟨a, 0, ⟨by simpa [Instr.wellFormed, hd] using ha, rfl, rfl⟩, (decode_speedChange c a 0).trans h⟩
  · rw [decode_reserved7] at h
    cases h
  · rw [decode_secRead] at h
    obtain ⟨hds, rfl⟩ := withDiskStation_const_ok h
    exact ⟨a, 0, ⟨hds, rfl, rfl⟩, (decode_secRead c a 0).trans h⟩
  · rw [decode_secWrite] at h
    obtain ⟨hds, rfl⟩ := withDiskStation_const_ok h
    exact ⟨a, v, ⟨hds, rfl, rfl⟩, (decode_secWrite c a v).trans h⟩
  · rw [decode_secIoRead] at h
    obtain ⟨hds, rfl⟩ := withDiskStation_const_ok h
    exact ⟨a, 0, ⟨hds, rfl, rfl⟩, (decode_secIoRead c a 0).trans h⟩
  · rw [decode_secIoWrite] at h
    obtain ⟨d, hd, hok⟩ := withDiskStation_ok h
    cases hok
    exact ⟨a, v, classifySecWrite_canonicalWord hd a v, (decode_secIoWrite c a v).trans h⟩
  · rw [decode_loopEnter] at h
    obtain ⟨hds, rfl⟩ := withDiskStation_const_ok h
    exact ⟨0, 0, ⟨hds, rfl, rfl⟩, (decode_loopEnter c 0 0).trans h⟩
  · rw [decode_workerExit] at h
    obtain ⟨hds, rfl⟩ := withDiskStation_const_ok h
    exact ⟨0, 0, ⟨hds, rfl, rfl⟩, (decode_workerExit c 0 0).trans h⟩
  · rw [decode_secFault] at h
    obtain ⟨hds, rfl⟩ := withDiskStation_const_ok h
    exact ⟨0, 0, ⟨hds, rfl, rfl⟩, (decode_secFault c 0 0).trans h⟩
  · rw [decode_reservedF] at h
    cases h

/-- Settles O2: the canonical word of what the decoder answers. -/
theorem decodedOperationsAreWellFormed : Obligations.DecodedOperationsAreWellFormed := by
  intro c w i h
  rw [← txPack_fields w] at h
  obtain ⟨a, v, ⟨hwf, htx, hword⟩, hdec⟩ := decode_canonicalWord h
  exact ⟨hwf, htx, _, hword, txKind_txPack _ _ _, hdec⟩

/-! ## What the decoder refuses (R67) -/

/-- The kinds of a disk station (R62): its clock, its CPU and its run control. -/
def StationKind (k : BitVec 4) : Prop := k = 0x5 ∨ k = 0x6 ∨ (8 ≤ k.toNat ∧ k ≠ 0xF)

/-- The kinds that spell no transaction (R67). -/
def ReservedKind (k : BitVec 4) : Prop := k = 0x7 ∨ k = 0xF

/-- The words of `SPEEDCHG 0` (R67). -/
def ZeroSpeedWord (w : TxWord) : Prop := txKind w = 0x6 ∧ txAddr w = 0

theorem StationKind.not_reserved {k : BitVec 4} (h : StationKind k) : ¬ReservedKind k := by
  unfold StationKind at h
  unfold ReservedKind
  revert k
  decide

theorem ZeroSpeedWord.stationKind {w : TxWord} (h : ZeroSpeedWord w) : StationKind (txKind w) := .inr (.inl h.1)

theorem decode_reserved {c : Config} {w : TxWord} (h : ReservedKind (txKind w)) :
    decode c w = .error .reservedKind := by
  rw [← txPack_fields w]
  rcases h with h | h <;> rw [h]
  · exact decode_reserved7 c _ _
  · exact decode_reservedF c _ _

/-- R62: a kind of the host always spells a transaction. -/
theorem decode_hostKind (c : Config) {w : TxWord} (hr : ¬ReservedKind (txKind w)) (hs : ¬StationKind (txKind w)) :
    ∃ i, decode c w = .ok i := by
  have hk : txKind w = 0x0 ∨ txKind w = 0x1 ∨ txKind w = 0x2 ∨ txKind w = 0x3 ∨ txKind w = 0x4 := by
    simp only [ReservedKind, StationKind] at hr hs
    generalize txKind w = k at *
    revert k
    decide
  rw [← txPack_fields w]
  rcases hk with h | h | h | h | h <;> rw [h]
  · exact ⟨_, decode_memRead c _ _⟩
  · exact ⟨_, decode_memWrite c _ _⟩
  · exact ⟨_, decode_ioRead c _ _⟩
  · exact ⟨_, decode_ioWrite c _ _⟩
  · exact ⟨_, decode_hostReset c _ _⟩

theorem decode_zeroSpeedWord (c : Config) {w : TxWord} (h : ZeroSpeedWord w) :
    decode c w = withDiskStation c fun _ => .error .zeroSpeed := by
  obtain ⟨hkind, haddr⟩ := h
  rw [← txPack_fields w, hkind, haddr, decode_speedChange]
  rfl

/-- With a disk station, every other word of its kinds spells a transaction. -/
theorem decode_stationKind (c : Config) {w : TxWord} (h : StationKind (txKind w)) (hz : ¬ZeroSpeedWord w) :
    ∃ g : DsParams → Instr, decode c w = withDiskStation c fun d => .ok (g d) := by
  have hk : txKind w = 0x5 ∨ txKind w = 0x6 ∨ txKind w = 0x8 ∨ txKind w = 0x9 ∨ txKind w = 0xA ∨ txKind w = 0xB ∨
      txKind w = 0xC ∨ txKind w = 0xD ∨ txKind w = 0xE := by
    simp only [StationKind] at h
    clear hz
    generalize txKind w = k at *
    revert k
    decide
  unfold ZeroSpeedWord at hz
  rw [← txPack_fields w]
  rcases hk with h | h | h | h | h | h | h | h | h <;> rw [h] at hz ⊢
  · exact ⟨fun _ => .tick, decode_clockTick c _ _⟩
  · exact ⟨fun _ => .speedchg (txAddr w), by simp only [decode_speedChange, if_neg fun ha => hz ⟨rfl, ha⟩]⟩
  · exact ⟨fun _ => .smrd (txAddr w), decode_secRead c _ _⟩
  · exact ⟨fun _ => .smwr (txAddr w) (txData w), decode_secWrite c _ _⟩
  · exact ⟨fun _ => .siord (txAddr w), decode_secIoRead c _ _⟩
  · exact ⟨fun d => classifySecWrite d (txAddr w) (txData w), decode_secIoWrite c _ _⟩
  · exact ⟨fun _ => .loopenter, decode_loopEnter c _ _⟩
  · exact ⟨fun _ => .wexit, decode_workerExit c _ _⟩
  · exact ⟨fun _ => .sfault, decode_secFault c _ _⟩

/-- The decoder's refusals, by the classes of words; they exclude each other. -/
theorem decode_error_iff (c : Config) (w : TxWord) (r : DecodeRefusal) :
    decode c w = .error r ↔
      (r = .reservedKind ∧ ReservedKind (txKind w)) ∨ (r = .noDiskStation ∧ c.ds = none ∧ StationKind (txKind w)) ∨
      (r = .zeroSpeed ∧ c.ds ≠ none ∧ ZeroSpeedWord w) := by
  by_cases hs : StationKind (txKind w)
  · have hr : ¬ReservedKind (txKind w) := hs.not_reserved
    by_cases hz : ZeroSpeedWord w
    · rw [decode_zeroSpeedWord c hz]
      cases hd : c.ds <;> simp [withDiskStation, hd, hr, hs, hz, eq_comm]
    · obtain ⟨g, hg⟩ := decode_stationKind c hs hz
      rw [hg]
      cases hd : c.ds <;> simp [withDiskStation, hd, hr, hs, hz, eq_comm]
  · have hz : ¬ZeroSpeedWord w := fun h => hs h.stationKind
    by_cases hr : ReservedKind (txKind w)
    · simp [decode_reserved hr, hr, hs, hz, eq_comm]
    · obtain ⟨i, hi⟩ := decode_hostKind c hr hs
      simp [hi, hr, hs, hz]

end Sys2Proof

namespace Sys2Proof.Machine

/-! ## What executing refuses without a disk station (R62, R67) -/

theorem withDs_none {s : State} {f : DsParams → Host.Outcome State Fault Refusal} (hd : s.cfg.ds = none) :
    withDs s f = .refused .noDiskStation := by
  rw [withDs, hd]

theorem withDs_some {s : State} {d : DsParams} (hd : s.cfg.ds = some d)
    (f : DsParams → Host.Outcome State Fault Refusal) : withDs s f = f d := by
  rw [withDs, hd]

/-- Every operation of another agent than the host asks for the disk station first. -/
theorem exec_noDiskStation {s : State} {i : Instr} (hd : s.cfg.ds = none) (hi : i.agent ≠ .host) :
    exec i s = .refused .noDiskStation := by
  cases i with
  | mrd | mwr | typerd | brrd | iord | statwr | dsctl | brwr | iowr => exact absurd rfl hi
  | encpu | stopcpu | rstcpu | nmicpu | hreset => exact absurd rfl hi
  | tick | speedchg | smrd | smwr | siord | drvsel | gideact => exact withDs_none hd
  | dmaact | pagewr | siowr | loopenter | wexit | sfault => exact withDs_none hd

/-- Settles O3: the refusals are read off the classes of kinds, and the five host operations of the disk station ask for it
as the other agents' do. -/
theorem decoderRefusesExactlyReservedWords : Obligations.DecoderRefusesExactlyReservedWords := by
  intro c w
  refine ⟨by simp [decode_error_iff, ReservedKind], by simp [decode_error_iff, StationKind],
    by simp [decode_error_iff, ZeroSpeedWord], fun s i hd hi => ?_⟩
  rcases hi with hi | rfl | rfl | rfl | rfl | ⟨high, v, rfl⟩
  · exact exec_noDiskStation hd hi
  · exact withDs_none hd
  · exact withDs_none hd
  · exact withDs_none hd
  · exact withDs_none hd
  · exact withDs_none hd

end Sys2Proof.Machine
end

/-! PROOFS. The encoding family (30_encoding.md), the operations a word of the host's ports or of the secondary side spells: the
general write and the bridge (R82, R83, R140, R141, R145), the control port (R142), run control (R124 to R126), the speed
change (R165) and the DMA activation (R185). -/

section

namespace Sys2Proof.Machine

/-! ## The I/O methods of a module, a rule per kind (R86, R143, R144) -/

section IoMethods

variable {s : State} {m : Module} {d : DsParams} {p : Port}

/-- R140, R143: the disk station claims a bridge read while connected. -/
theorem Module.readIO_ds (hd : s.cfg.ds = some d) (hk : m.params.kind = .ds) :
    m.readIO s p =
      if m.connected d && isBridgePort (portLow p) then some (s.secByte (bridgeAddr p)) else none := by
  simp only [Module.readIO, hk, hd]

theorem Module.claimIoWrite_control (hd : s.cfg.ds = some d) (hk : m.params.kind = .ds)
    (hp : portLow p = d.ctrlPort) (hc : m.connected d = true ∨ d.ctrlNeedsConnect = false) :
    m.claimIoWrite s p = some .control := by
  simp [Module.claimIoWrite, hk, hd, hp, hc]

theorem Module.claimIoWrite_bridge (hd : s.cfg.ds = some d) (hk : m.params.kind = .ds) (hp : portLow p ≠ d.ctrlPort)
    (hb : isBridgePort (portLow p) = true) :
    m.claimIoWrite s p = if m.connected d then some .bridge else none := by
  simp [Module.claimIoWrite, hk, hd, hp, hb]

/-- R64: the disk station claims no port but its own. -/
theorem Module.claimIoWrite_ds_none (hk : m.params.kind = .ds) (hp : s.cfg.ds.any (·.claimsWritePort p) = false) :
    m.claimIoWrite s p = none := by
  cases hd : s.cfg.ds with
  | none => simp [Module.claimIoWrite, hk, hd]
  | some d =>
    obtain ⟨hctrl, hbridge⟩ := (DsParams.claimsWritePort_eq_false_iff p).1 (by simpa [hd] using hp)
    simp [Module.claimIoWrite, hk, hd, hctrl, hbridge]

/-- R83, D32: any other module than the disk station claims a write for itself alone, or not at all. -/
theorem Module.claimIoWrite_of_ne_ds (s : State) (p : Port) (hk : m.params.kind ≠ .ds) :
    m.claimIoWrite s p = none ∨ m.params.kind = .peripheral ∧ m.claimIoWrite s p = some .peripheral := by
  cases hkind : m.params.kind with
  | rom dec image => exact .inl (by simp [Module.claimIoWrite, hkind])
  | ram dec we => exact .inl (by simp [Module.claimIoWrite, hkind])
  | ds => exact absurd hkind hk
  | peripheral =>
    simp only [Module.claimIoWrite, hkind]
    split
    · exact .inr ⟨trivial, rfl⟩
    · exact .inl rfl

theorem Module.claimIoWrite_peripheral (s : State) (p : Port) (hk : m.params.kind = .peripheral) :
    m.claimIoWrite s p = none ∨ m.claimIoWrite s p = some .peripheral :=
  (Module.claimIoWrite_of_ne_ds s p (by simp [hk])).imp_right fun ⟨_, h⟩ => h

theorem Module.readIO_rom_ram_none (s : State) (p : Port) (hds : m.params.kind ≠ .ds)
    (hper : m.params.kind ≠ .peripheral) : m.readIO s p = none := by
  cases hkind : m.params.kind with
  | rom dec image => simp [Module.readIO, hkind]
  | ram dec we => simp [Module.readIO, hkind]
  | peripheral => exact absurd hkind hper
  | ds => exact absurd hkind hds

end IoMethods

/-! ## The module search (R82, R83) -/

/-- Where only one answer is possible, some claim gives it. -/
theorem findSome?_of_only {α β : Type} {f : α → Option β} {v : β} {l : List α}
    (h : ∀ x ∈ l, f x = none ∨ f x = some v) (hex : ∃ x ∈ l, f x ≠ none) : l.findSome? f = some v := by
  cases hl : l.findSome? f with
  | none =>
    obtain ⟨x, hx, hne⟩ := hex
    exact absurd (List.findSome?_eq_none_iff.1 hl x hx) hne
  | some u =>
    obtain ⟨x, hx, hu⟩ := List.exists_of_findSome?_eq_some hl
    rcases h x hx with hn | hv
    · rw [hn] at hu
      cases hu
    · rw [← hu, hv]

/-- An element that answers stands behind every earlier answer. -/
theorem findSome?_append_cons {α β : Type} {f : α → Option β} {before after : List α} {m : α} {v : β}
    (hm : f m = some v) : (before ++ m :: after).findSome? f = some ((before.findSome? f).getD v) := by
  rw [List.findSome?_append, List.findSome?_cons, hm]
  cases before.findSome? f <;> rfl

section Search

variable {s : State} {p : Port} {v : Byte}

theorem ioRead_of_claim {b : Byte} (h : s.mods.findSome? (fun m => m.readIO s p) = some b) :
    ioRead s p = s.setAnswer (.hostRead true b) := by
  rw [ioRead, h]

theorem ioRead_unclaimed (h : ∀ m ∈ s.mods, m.readIO s p = none) : ioRead s p = s.setAnswer (.hostRead false fillByte) := by
  rw [ioRead, findSome?_none _ h]

theorem ioWrite_unclaimed (h : ioWriteClaim s p = none) : ioWrite s p v = s.setAnswer (.hostWrite .notHandled) := by
  rw [ioWrite, h]

theorem ioWrite_peripheral (h : ioWriteClaim s p = some .peripheral) :
    ioWrite s p v = s.setAnswer (.hostWrite .handledWritten) := by
  rw [ioWrite, h]

theorem ioWrite_bridge (h : ioWriteClaim s p = some .bridge) :
    ioWrite s p v = (s.setSecMem (s.secMem.set (bridgeAddr p) v)).setAnswer (.hostWrite .handledWritten) := by
  rw [ioWrite, h]

theorem ioWrite_control {d : DsParams} (hd : s.cfg.ds = some d) (h : ioWriteClaim s p = some .control) :
    ioWrite s p v = (controlWrite d s v).setAnswer (.hostWrite .handledWritten) := by
  simp only [ioWrite, h, hd]

/-- The peripheral modules before the one of interest take the write if one of them claims it (R64, R83; log 6). -/
theorem ioWriteClaim_of_earlier {before after : List Module} {m : Module} (hs : s.mods = before ++ m :: after)
    (hb : ∀ x ∈ before, x.claimIoWrite s p = none ∨ x.params.kind = .peripheral)
    (hex : ∃ x ∈ before, x.claimIoWrite s p ≠ none) : ioWriteClaim s p = some .peripheral := by
  have honly : ∀ x ∈ before, x.claimIoWrite s p = none ∨ x.claimIoWrite s p = some .peripheral :=
    fun x hx => (hb x hx).elim .inl (Module.claimIoWrite_peripheral s p)
  rw [ioWriteClaim, hs, List.findSome?_append, findSome?_of_only honly hex]
  rfl

theorem ioWriteClaim_of_first {before after : List Module} {m : Module} {k : IoWriteClaim}
    (hs : s.mods = before ++ m :: after) (hb : ∀ x ∈ before, x.claimIoWrite s p = none)
    (hm : m.claimIoWrite s p = some k) : ioWriteClaim s p = some k := by
  rw [ioWriteClaim, hs]
  exact findSome?_first _ hb hm

/-- Where the disk station claims nothing, a write changes its answer alone, which tells whether a peripheral module
claims it (R83, D32). -/
theorem ioWrite_without_station (v : Byte) (h : ∀ m ∈ s.mods, m.params.kind = .ds → m.claimIoWrite s p = none) :
    ∃ o, ioWrite s p v = s.setAnswer (.hostWrite o) ∧
      (o = .handledWritten ↔ ∃ m ∈ s.mods, m.claimIoWrite s p = some .peripheral) ∧
      (o = .notHandled ↔ ∀ m ∈ s.mods, m.claimIoWrite s p ≠ some .peripheral) := by
  have honly : ∀ m ∈ s.mods, m.claimIoWrite s p = none ∨ m.claimIoWrite s p = some .peripheral := by
    intro m hm
    by_cases hk : m.params.kind = .ds
    · exact .inl (h m hm hk)
    · exact (Module.claimIoWrite_of_ne_ds s p hk).imp_right fun ⟨_, hclaim⟩ => hclaim
  by_cases hex : ∃ m ∈ s.mods, m.claimIoWrite s p = some .peripheral
  · obtain ⟨m, hm, hclaim⟩ := hex
    have hfirst : ioWriteClaim s p = some .peripheral := findSome?_of_only honly ⟨m, hm, by simp [hclaim]⟩
    exact ⟨.handledWritten, ioWrite_peripheral hfirst, iff_of_true rfl ⟨m, hm, hclaim⟩,
      iff_of_false (by simp) fun hall => hall m hm hclaim⟩
  · have hall : ∀ m ∈ s.mods, m.claimIoWrite s p ≠ some .peripheral := fun m hm hclaim => hex ⟨m, hm, hclaim⟩
    have hnone : ioWriteClaim s p = none := findSome?_none _ fun m hm => (honly m hm).resolve_right (hall m hm)
    exact ⟨.notHandled, ioWrite_unclaimed hnone, iff_of_false (by simp) hex, iff_of_true rfl hall⟩

end Search

/-- Settles O19: a port outside every disk-station rule is none of the disk station's claims. -/
theorem ioWriteGeneralPortChangesNothing : Obligations.IoWriteGeneralPortChangesNothing := by
  intro s p v hwf
  simp only [Instr.wellFormed, Bool.and_eq_true, Bool.not_eq_true'] at hwf
  obtain ⟨_, hclaims⟩ := hwf
  obtain ⟨o, ho, hwritten, hnot⟩ :=
    ioWrite_without_station v fun m (_ : m ∈ s.mods) hk => Module.claimIoWrite_ds_none (p := p) hk hclaims
  exact ⟨o, congrArg Host.Outcome.next ho, hwritten, hnot⟩

/-! ## The bridge (R140, R141, R145) -/

/-- Settles O20: the disk station answers the bridge byte, and an earlier answer stands before it. -/
theorem bridgeReadAnswersSecondaryByte : Obligations.BridgeReadAnswersSecondaryByte := by
  intro s d page high before after m hd hs hk hbit
  have hconn : m.connected d = true := hbit
  have hm : m.readIO s (mkPort high (bridgePort page)) = some (s.secByte (0xFC00 + 0x100 * page.toNat + high.toNat)) := by
    simp [Module.readIO_ds hd hk, hconn, bridgeAddr_mkPort]
  refine congrArg Host.Outcome.next (ioRead_of_claim ?_)
  rw [hs]
  exact findSome?_append_cons (f := fun x : Module => x.readIO s (mkPort high (bridgePort page))) hm

/-- R5: the control port is no bridge port. -/
theorem bridgePort_ne_ctrlPort {c : Config} {d : DsParams} (h : c.wf = true) (hd : c.ds = some d) (page : BitVec 2)
    (high : Byte) : portLow (mkPort high (bridgePort page)) ≠ d.ctrlPort := by
  rw [portLow_mkPort]
  exact bridgePort_ne (DsParams.ctrlPort_not_bridge (Config.dsParams_wf h hd))

/-- Settles O21: either an earlier peripheral module claims, or the disk station is the first and writes its one byte. -/
theorem bridgeWriteStoresOneByte : Obligations.BridgeWriteStoresOneByte := by
  intro s d page high v before after m hwf hd hs hk hbit hb
  refine ⟨ioWrite s (mkPort high (bridgePort page)) v, rfl, fun hex => ?_, fun hnone => ?_⟩
  · exact ioWrite_peripheral (ioWriteClaim_of_earlier hs hb hex)
  · have hconn : m.connected d = true := hbit
    have hm : m.claimIoWrite s (mkPort high (bridgePort page)) = some .bridge := by
      simp [Module.claimIoWrite_bridge hd hk (bridgePort_ne_ctrlPort hwf hd page high), hconn]
    rw [ioWrite_bridge (ioWriteClaim_of_first hs hnone hm), bridgeAddr_mkPort]
    exact ⟨rfl, readByte_set_same _ _ _ _, fun a ha => readByte_set_other _ _ _ ha.symm⟩

/-- R13, R17: the connection is the bit of every disk-station module. -/
theorem State.not_connected {s : State} {d : DsParams} {m : Module} (h : s.connected = false) (hd : s.cfg.ds = some d)
    (hm : m ∈ s.mods) (hk : m.params.kind = .ds) : m.connected d = false := by
  simp only [State.connected, hd, List.any_eq_false, Bool.and_eq_true, beq_iff_eq, not_and, Bool.not_eq_true] at h
  exact h m hm hk

/-- R145: not connected, the disk station claims neither a read nor a write of a bridge port. -/
theorem bridge_unclaimed_of_not_connected {s : State} {m : Module} (page : BitVec 2) (high : Byte)
    (hwf : s.cfg.wf = true) (h : s.connected = false) (hm : m ∈ s.mods) (hk : m.params.kind = .ds) :
    m.readIO s (mkPort high (bridgePort page)) = none ∧ m.claimIoWrite s (mkPort high (bridgePort page)) = none := by
  cases hd : s.cfg.ds with
  | none => simp [Module.readIO, Module.claimIoWrite, hk, hd]
  | some d =>
    have hconn : m.connected d = false := State.not_connected h hd hm hk
    simp [Module.readIO_ds hd hk, Module.claimIoWrite_bridge hd hk (bridgePort_ne_ctrlPort hwf hd page high), hconn]

/-- R146, R147, R208: a secondary memory access leaves the latch and the clock bit, so it commutes with replacing the
modules alone. -/
theorem exec_withMods {i : Instr} {s t : State} (mods : List Module) (hi : i.agent ≠ .host) (hio : ∀ p, i ≠ .siord p)
    (hkeep : NextSat (fun u => u.latch = s.latch ∧ u.clkSel = s.clkSel) (exec i s)) (h : exec i s = .next t) :
    exec i { s with mods := mods } = .next { t with mods := mods } := by
  obtain ⟨hlatch, hclk⟩ := hkeep t h
  have hcomm := secondarySideIgnoresHostSide i s t mods s.latch s.clkSel hi hio h
  have ht : ({ t with mods := mods, latch := s.latch, clkSel := s.clkSel } : State) = { t with mods := mods } := by
    rw [← hlatch, ← hclk]
  exact hcomm.trans (congrArg Host.Outcome.next ht)

/-- Settles O22: no disk-station claim, so the general search decides; the secondary side does not see the modules. -/
theorem disconnectedBridgeDoesNotExist : Obligations.DisconnectedBridgeDoesNotExist := by
  intro s page high v hwf hconn
  have hds : ∀ m ∈ s.mods, m.params.kind = .ds →
      m.readIO s (mkPort high (bridgePort page)) = none ∧ m.claimIoWrite s (mkPort high (bridgePort page)) = none :=
    fun m hm hk => bridge_unclaimed_of_not_connected page high hwf hconn hm hk
  refine ⟨hds, rfl, fun hper => ?_, ?_, fun a t mods => ⟨fun h => ?_, fun h => ?_⟩⟩
  · refine congrArg Host.Outcome.next (ioRead_unclaimed fun m hm => ?_)
    by_cases hk : m.params.kind = .ds
    · exact (hds m hm hk).1
    · exact Module.readIO_rom_ram_none s _ hk (hper m hm)
  · obtain ⟨o, ho, _, hnot⟩ := ioWrite_without_station v fun m hm hk => (hds m hm hk).2
    refine ⟨o, congrArg Host.Outcome.next ho, fun hper => hnot.2 fun m hm hclaim => ?_⟩
    by_cases hk : m.params.kind = .ds
    · simp [(hds m hm hk).2] at hclaim
    · rcases Module.claimIoWrite_of_ne_ds s (mkPort high (bridgePort page)) hk with hn | ⟨hp, _⟩
      · simp [hn] at hclaim
      · exact hper m hm hp
  · exact exec_withMods mods (by simp [Instr.agent]) (by simp) (.withDs fun _ _ => .next ⟨rfl, rfl⟩) h
  · refine exec_withMods mods (by simp [Instr.agent]) (by simp) (.withDs fun _ _ => .next ?_) h
    rcases secWrite_cases s a v with ⟨_, hw⟩ | ⟨_, hw⟩ <;> rw [hw] <;> exact ⟨rfl, rfl⟩

/-! ## The control port (R142, R144) -/

/-- R186: without a clock-rate bit that changes, the clock part of a control write does nothing. -/
theorem applyClockBit_unchanged {d : DsParams} {s : State} {v : Byte}
    (h : d.fixedSpeed = none → ∀ e, d.variant = .ext e → v.getLsbD e.clkBit.val = s.clkSel) :
    applyClockBit d s v = s := by
  rcases applyClockBit_cases d s v with ⟨hsame, _⟩ | ⟨e, he, hf, hne, _⟩
  · exact hsame
  · exact absurd (h hf e he) hne

theorem foldl_runAction_clkSel (bits : List CtrlBit) (s : State) : (bits.foldl runAction s).clkSel = s.clkSel := by
  obtain ⟨_, _, _, _, h, _⟩ := foldl_runAction_spec bits s
  rw [h]

/-- R142: a control write with no clock-rate bit acting is the latch, then the operations of the rising bits. -/
theorem controlWrite_eq_executeActions {s : State} {d : DsParams} {v : Byte} (hd : s.cfg.ds = some d)
    (h : d.fixedSpeed = none → ∀ e, d.variant = .ext e → v.getLsbD e.clkBit.val = s.clkSel) :
    controlWrite d s v = (s.setLatch (v.extractLsb' 0 4)).executeActions (decodeEdges d.edgeOrder s.latch v) := by
  rw [executeActions_eq (d := d) (by simpa using hd)]
  exact applyClockBit_unchanged (by simpa [foldl_runAction_clkSel] using h)

/-- Settles O23: either an earlier peripheral module claims, or the disk station is the first and the write is a control
write. -/
theorem controlWriteRunsRisingActions : Obligations.ControlWriteRunsRisingActions := by
  intro s d high v before after m hd hs hk hclaim hb
  refine ⟨ioWrite s (mkPort high d.ctrlPort) v, withDs_some hd _, fun hex => ?_, fun hnone hclk => ?_⟩
  · exact ioWrite_peripheral (ioWriteClaim_of_earlier hs hb hex)
  · have hm : m.claimIoWrite s (mkPort high d.ctrlPort) = some .control :=
      Module.claimIoWrite_control hd hk (portLow_mkPort _ _) hclaim
    rw [ioWrite_control hd (ioWriteClaim_of_first hs hnone hm), controlWrite_eq_executeActions hd hclk]
    rfl

/-! ## Run control (R124 to R126, R205) -/

theorem State.canEnter_iff (s : State) : s.canEnter = true ↔ s.workerLive = true ∧ s.runLevel = .startingUp := by
  simp [State.canEnter]

theorem State.canExit_iff (s : State) : s.canExit = true ↔ s.workerLive = true ∧ s.runLevel = .down := by
  simp [State.canExit]

theorem State.canFault_iff (s : State) : s.canFault = true ↔
    s.workerLive = true ∧ s.coldPending = false ∧ (s.runLevel = .running ∨ s.runLevel = .down) := by
  simp [State.canFault, and_assoc]

section RunControl

variable {s : State} {d : DsParams}

theorem exec_loopenter (hd : s.cfg.ds = some d) : exec .loopenter s =
    if s.canEnter then .next ((enterLoop d s).setAnswer .silent) else .refused (.notEnabled "LOOPENTER") :=
  withDs_some hd _

theorem exec_wexit (hd : s.cfg.ds = some d) : exec .wexit s =
    if s.canExit then .next (((s.setWorkerLive false).setColdPending false).setAnswer .silent)
    else .refused (.notEnabled "WEXIT") :=
  withDs_some hd _

theorem exec_sfault (hd : s.cfg.ds = some d) : exec .sfault s =
    if s.canFault then .next ((containFault s).setAnswer .silent) else .refused (.notEnabled "SFAULT") :=
  withDs_some hd _

end RunControl

/-- R124: the loop entry writes the secondary memory only where the cold clear is pending. -/
theorem enterLoop_eq (d : DsParams) (s : State) :
    enterLoop d s = { s with
      secMem := if s.coldPending then s.secMem.clearBelow bridgeMemBase else s.secMem
      coldPending := false, runLevel := .running, events := s.events ++ [.secReset d.resetVector] } := by
  unfold enterLoop
  cases hc : s.coldPending with
  | true => rfl
  | false => simp [State.setRunLevel, State.emit, hc]

/-- R124: what the cold clear reads as. -/
theorem readByte_clearBelow (id : StoreId) (m : Memory) (n a : Nat) :
    readByte id (m.clearBelow n) a = if a < n then 0 else readByte id m a := by
  unfold readByte
  rw [Memory.get_clearBelow]
  split <;> rfl

/-- Settles O31. -/
theorem loopEntryClearsOnceAndRuns : Obligations.LoopEntryClearsOnceAndRuns := by
  intro s d hd
  refine ⟨fun hlive hlevel => ⟨(enterLoop d s).setAnswer .silent, ?_, ?_, fun hcold => ?_, fun hcold => ?_⟩, fun hnot => ?_⟩
  · rw [exec_loopenter hd, if_pos (s.canEnter_iff.2 ⟨hlive, hlevel⟩)]
  · rw [enterLoop_eq]
    rfl
  · have hbyte (a : Nat) : ((enterLoop d s).setAnswer .silent).secByte a = if a < 0xFC00 then 0 else s.secByte a := by
      simp only [State.secByte, State.setAnswer_secMem, enterLoop_eq, hcold, if_true]
      exact readByte_clearBelow _ _ _ _
    exact ⟨fun a ha => by rw [hbyte, if_pos ha], fun a ha => by rw [hbyte, if_neg (by omega)]⟩
  · simp [enterLoop_eq, hcold]
  · rw [exec_loopenter hd, if_neg (mt s.canEnter_iff.1 hnot)]

/-- Settles O32. -/
theorem workerExitOnlyWhenStopping : Obligations.WorkerExitOnlyWhenStopping := by
  intro s d hd
  refine ⟨fun hlive hlevel => ?_, fun hnot => ?_⟩
  · rw [exec_wexit hd, if_pos (s.canExit_iff.2 ⟨hlive, hlevel⟩)]
    rfl
  · rw [exec_wexit hd, if_neg (mt s.canExit_iff.1 hnot)]

theorem containFault_running {s : State} (h : s.runLevel = .running) :
    containFault s = (s.emit (.errorReport .secondaryFault)).setRunLevel .startingUp := if_pos h

theorem containFault_of_ne_running {s : State} (h : s.runLevel ≠ .running) :
    containFault s = s.emit (.errorReport .secondaryFault) := if_neg h

/-- Settles O33. -/
theorem secondaryFaultIsContained : Obligations.SecondaryFaultIsContained := by
  intro s d hd
  refine ⟨fun hlive hcold hlevel => ?_, fun hlive hcold hlevel => ?_, fun hnot => ?_⟩
  · rw [exec_sfault hd, if_pos (s.canFault_iff.2 ⟨hlive, hcold, .inl hlevel⟩), containFault_running hlevel]
    rfl
  · rw [exec_sfault hd, if_pos (s.canFault_iff.2 ⟨hlive, hcold, .inr hlevel⟩),
      containFault_of_ne_running (by simp [hlevel])]
    rfl
  · rw [exec_sfault hd, if_neg (mt s.canFault_iff.1 hnot)]

/-! ## The speed change and the DMA activation (R165, R185) -/

/-- A kept counter is the old one (R165). -/
theorem glowAfterSpeed_keep {d : DsParams} (hm : d.afterglow = .keep) (glow new old : Nat) :
    glowAfterSpeed d glow new old = glow := by
  simp only [glowAfterSpeed, hm]

/-- A rescaled counter is the least count that lasts as long (R110, R165). -/
theorem glowAfterSpeed_le_iff {d : DsParams} (hm : d.afterglow = .rescale) {glow new old : Nat} (ho : 0 < old) (n : Nat) :
    glow * new ≤ n * old ↔ glowAfterSpeed d glow new old ≤ n := by
  simp only [glowAfterSpeed, hm]
  split
  next h => simp [h]
  next => exact (rescaleGlow_le_iff glow new old n ho).symm

theorem setSpeedTo_glow (d : DsParams) (s : State) (k : KHz) (i : Indicator) :
    (setSpeedTo d s k).glow i = glowAfterSpeed d (s.glow i) k.toNat s.speedKHz.toNat := by
  cases i <;> rfl

/-- A rate that is not zero is positive as a number. -/
theorem toNat_pos_of_ne_zero {k : KHz} (h : k ≠ 0) : 0 < k.toNat :=
  Nat.pos_of_ne_zero fun hz => h (BitVec.eq_of_toNat_eq hz)

theorem exec_speedchg {s : State} {d : DsParams} (hd : s.cfg.ds = some d) (k : KHz) : exec (.speedchg k) s =
    if k = 0 then .refused .zeroSpeed else .next ((setSpeedTo d s k).setAnswer .silent) :=
  withDs_some hd _

/-- Settles O45: both counters go through the same rescaling. -/
theorem speedChangeKeepsWallClockTime : Obligations.SpeedChangeKeepsWallClockTime := by
  intro s d k hd hspeed
  refine ⟨by rw [exec_speedchg hd, if_pos rfl], fun hk => ⟨(setSpeedTo d s k).setAnswer .silent, ?_, rfl, ?_, ?_⟩⟩
  · rw [exec_speedchg hd, if_neg hk]
  · exact fun hkeep => ⟨glowAfterSpeed_keep hkeep _ _ _, glowAfterSpeed_keep hkeep _ _ _⟩
  · intro hrescale i
    have hold : 0 < s.speedKHz.toNat := toNat_pos_of_ne_zero hspeed
    have hglow : ((setSpeedTo d s k).setAnswer .silent).glow i =
        glowAfterSpeed d (s.glow i) k.toNat s.speedKHz.toNat := setSpeedTo_glow d s k i
    rw [hglow]
    exact ⟨fun n => glowAfterSpeed_le_iff hrescale hold n,
      glowAfterSpeed_eq_zero d _ _ _ (toNat_pos_of_ne_zero hk) hold⟩

theorem exec_dmaact_ext {s : State} {d : DsParams} {e : ExtParams} (hd : s.cfg.ds = some d) (he : d.variant = .ext e)
    (p : Port) (v : Byte) : exec (.dmaact p v) s = .next ((glowLoad s .dma).setAnswer .silent) := by
  simp only [exec, execDmaact, withDs_some hd, he]

/-- Settles O42: R5 keeps the port from being another unit's, and the load and its `Dirty` are `glowLoad`'s. -/
theorem dmaActivationLoadsCounter : Obligations.DmaActivationLoadsCounter := by
  intro s d e p v hd he
  refine ⟨fun hwf hmem => ⟨?_, ?_⟩, ?_⟩
  · have hp : d.isDmaAct p = true := (DsParams.isDmaAct_iff p).2 ⟨e, he, hmem⟩
    obtain ⟨hdrv, hgide⟩ := DsParams.not_earlier_of_dma (Config.dsParams_wf hwf hd) hp
    rw [decode_secIoWrite, withDiskStation_some hd, classifySecWrite_dma hdrv hgide hp]
  · rw [decode_secIoRead, withDiskStation_some hd]
  · rw [exec_dmaact_ext hd he, glowLoad_dma]
    rfl

end Sys2Proof.Machine
end

/-! PROOFS. The module bus family (40_module_bus.md): the first claim answers a memory read (R80) and an I/O read (R82), the
slot's module a type read (R84), and the first outcome other than `NOT_HANDLED` ends a memory write (R81, R246). -/

section

namespace Sys2Proof.Machine

/-! ## Memory reads (R80) -/

section MemoryReads

variable {c : Config} {mods : List Module} {a : Addr}

theorem busRead_of_claim {v : Byte} (h : mods.findSome? (fun m => m.readMem c a) = some v) :
    busRead c mods a = .hostRead true v := by
  rw [busRead, h]

theorem busRead_unclaimed (h : ∀ m ∈ mods, m.readMem c a = none) : busRead c mods a = .hostRead false fillByte := by
  rw [busRead, findSome?_none _ h]

theorem exec_mrd (s : State) (a : Addr) : exec (.mrd a) s = .next (s.setAnswer (busRead s.cfg s.mods a)) := rfl

end MemoryReads

/-- Settles O7: the search is a first match over the installation order. -/
theorem memoryReadFirstClaimAnswers : Obligations.MemoryReadFirstClaimAnswers := by
  refine ⟨decode_memRead, fun s a before after m v hs hb hm => ?_, fun s a hnone => ?_⟩
  · have hfirst : s.mods.findSome? (fun x => x.readMem s.cfg a) = some v := by
      rw [hs]
      exact findSome?_first _ hb hm
    rw [exec_mrd, busRead_of_claim hfirst]
  · rw [exec_mrd, busRead_unclaimed hnone]
    rfl

/-! ## Memory writes (R81, R246) -/

section WriteMem

variable {m : Module} {c : Config} {a : Addr} {i : Nat}

/-- R104: outside its window, or disabled, a module passes the write on. -/
theorem Module.writeMem_unclaimed (v : Byte) (h : m.claimIndex c a = none) : m.writeMem c a v = (.notHandled, m) := by
  simp [Module.writeMem, h]

/-- R108: the parameter `ROM_WRITE_OUTCOME` has no value that stores. -/
theorem romOutcome_ne_handledWritten (o : RomWriteOutcome) : romOutcome o ≠ .handledWritten := by
  cases o <;> simp [romOutcome]

/-- R107 to R109: a module other than a RAM never changes and never answers `HANDLED_WRITTEN`. -/
theorem Module.writeMem_of_not_ram (v : Byte) (hi : m.claimIndex c a = some i)
    (hk : ∀ d we, m.params.kind ≠ .ram d we) : ∃ o, o ≠ .handledWritten ∧ m.writeMem c a v = (o, m) := by
  cases hkind : m.params.kind with
  | ram d we => exact absurd hkind (hk d we)
  | peripheral => exact ⟨.notHandled, by simp, by simp [Module.writeMem, hi, hkind]⟩
  | rom d image =>
    exact ⟨_, romOutcome_ne_handledWritten c.romWriteOutcome, by simp [Module.writeMem, hi, hkind]⟩
  | ds => exact ⟨_, romOutcome_ne_handledWritten c.romWriteOutcome, by simp [Module.writeMem, hi, hkind]⟩

/-- R81, R107, R108: `HANDLED_WRITTEN` and the one byte stored at the claimed index go together; any other outcome leaves
the module as it is. -/
theorem Module.writeMem_outcomes (m : Module) (c : Config) (a : Addr) (v : Byte) :
    (∃ o, o ≠ .handledWritten ∧ m.writeMem c a v = (o, m)) ∨
    ∃ i, m.claimIndex c a = some i ∧ m.writeMem c a v = (.handledWritten, { m with store := m.store.set i v }) := by
  cases hi : m.claimIndex c a with
  | none => exact .inl ⟨.notHandled, by simp, Module.writeMem_unclaimed v hi⟩
  | some i =>
    by_cases hk : ∃ d we, m.params.kind = .ram d we
    · obtain ⟨d, we, hram⟩ := hk
      cases hwe : m.writeEnable we with
      | false => exact .inl ⟨.handledBlocked, by simp, Module.writeMem_ram_protected v hram hi hwe⟩
      | true => exact .inr ⟨i, rfl, Module.writeMem_ram_enabled v hram hi hwe⟩
    · exact .inl (Module.writeMem_of_not_ram v hi fun d we hram => hk ⟨d, we, hram⟩)

end WriteMem

section MemoryWrites

variable {s : State} {a : Addr} {v : Byte}

@[simp] theorem State.setMods_self (s : State) : s.setMods s.mods = s := rfl

theorem exec_mwr (s : State) (a : Addr) (v : Byte) : exec (.mwr a v) s =
    .next ((s.setMods (busWrite s.cfg a v s.mods).2).setAnswer (.hostWrite (busWrite s.cfg a v s.mods).1)) := rfl

/-- R81: the first module that does not pass the write on decides the outcome, and it alone is replaced. -/
theorem exec_mwr_first {before after : List Module} {m : Module} (hs : s.mods = before ++ m :: after)
    (hb : ∀ x ∈ before, (x.writeMem s.cfg a v).1 = .notHandled) (hm : (m.writeMem s.cfg a v).1 ≠ .notHandled) :
    exec (.mwr a v) s = .next ((s.setMods (before ++ (m.writeMem s.cfg a v).2 :: after)).setAnswer
      (.hostWrite (m.writeMem s.cfg a v).1)) := by
  rw [exec_mwr, hs, busWrite_first s.cfg a v hb hm]

theorem exec_mwr_unclaimed (h : ∀ x ∈ s.mods, (x.writeMem s.cfg a v).1 = .notHandled) :
    exec (.mwr a v) s = .next (s.setAnswer (.hostWrite .notHandled)) := by
  rw [exec_mwr, busWrite_none s.cfg a v h, State.setMods_self]

end MemoryWrites

/-- Settles O8: the search hands the write to the first module that does not pass it on, and that module's outcome tells
whether its one byte was stored. -/
theorem memoryWriteStopsAtFirstClaim : Obligations.MemoryWriteStopsAtFirstClaim := by
  refine ⟨decode_memWrite, fun s a v before after m hs hb hm => ?_, fun s a v => exec_mwr_unclaimed⟩
  refine ⟨(m.writeMem s.cfg a v).2, exec_mwr_first hs hb hm, writeMem_params m s.cfg a v, writeMem_status m s.cfg a v,
    rfl, ?_⟩
  rcases Module.writeMem_outcomes m s.cfg a v with ⟨o, hne, hw⟩ | ⟨i, hi, hw⟩ <;> rw [hw]
  · exact ⟨fun _ _ => rfl, fun ho => absurd ho hne, fun _ => rfl⟩
  · refine ⟨fun k hk => ?_, fun _ => ⟨i, hi, Memory.get_set_same m.store i v⟩, fun ho => absurd ho (by simp)⟩
    have hik : i ≠ k := fun h => hk (h ▸ hi)
    exact Memory.get_set_other m.store v hik

/-- Settles O9: the protected RAM claims the address, blocks, and so is replaced by itself. -/
theorem writeProtectedRamMasksLaterModules : Obligations.WriteProtectedRamMasksLaterModules := by
  intro s a v before after m dec we hs hb hk hen hw hwe
  have hclaim : m.claimIndex s.cfg a = some (dec.index m.status a) := Module.claimIndex_ram s.cfg hk hen hw
  have hblocked : m.writeMem s.cfg a v = (.handledBlocked, m) := Module.writeMem_ram_protected v hk hclaim hwe
  have hpass : ∀ x ∈ before, (x.writeMem s.cfg a v).1 = .notHandled :=
    fun x hx => by rw [Module.writeMem_unclaimed v (hb x hx)]
  rw [exec_mwr_first hs hpass (by simp [hblocked]), hblocked, ← hs, State.setMods_self]

/-! ## Type reads (R84) -/

/-- R64: a read of the status port with the slot in the high byte. -/
theorem decode_typerd (c : Config) (slot d : Byte) :
    decode c (txPack 0x2 (mkPort slot c.statusPort) d) = .ok (.typerd slot) := by
  rw [decode_ioRead, classifyIoRead_status (portLow_mkPort slot c.statusPort), portHigh_mkPort]

/-- R87: with distinct slots, the lookup finds whichever module is in the slot. -/
theorem State.findSlot_of_mem {s : State} {m : Module} (h : slotsDistinct s.modParams = true) (hm : m ∈ s.mods) :
    findSlot s.mods m.params.slotId = some m := by
  obtain ⟨before, after, hs⟩ := List.append_of_mem hm
  have hb : ∀ x ∈ before, x.params.slotId ≠ m.params.slotId :=
    fun x hx => State.slotId_ne_of_mods_eq h hs (.inl hx)
  rw [hs, findSlot_append_cons hb rfl]

section TypeReads

variable {s : State} {slot : Byte}

theorem exec_typerd_found {m : Module} (h : findSlot s.mods slot = some m) :
    exec (.typerd slot) s = .next (s.setAnswer (.hostRead true m.params.typeByte)) := by
  simp only [exec, execTyperd, typeRead, h]

theorem exec_typerd_empty (h : findSlot s.mods slot = none) :
    exec (.typerd slot) s = .next (s.setAnswer (.hostRead false fillByte)) := by
  simp only [exec, execTyperd, typeRead, h]

end TypeReads

/-- Settles O16: the slots are distinct, so the lookup finds the addressed module whatever stands before it. -/
theorem typeReadAnswersSlot : Obligations.TypeReadAnswersSlot := by
  refine ⟨decode_typerd, fun s slot m hslots hm hslot => ?_,
    fun s slot hnone => exec_typerd_empty (findSlot_none hnone)⟩
  subst hslot
  exact exec_typerd_found (State.findSlot_of_mem hslots hm)

/-! ## I/O reads (R82) -/

/-- D32: a module that is neither the disk station nor a peripheral claims no write. -/
theorem Module.claimIoWrite_rom_ram_none {m : Module} (s : State) (p : Port) (hds : m.params.kind ≠ .ds)
    (hper : m.params.kind ≠ .peripheral) : m.claimIoWrite s p = none :=
  (Module.claimIoWrite_of_ne_ds s p hds).resolve_right fun ⟨hkind, _⟩ => hper hkind

theorem exec_iord (s : State) (p : Port) : exec (.iord p) s = .next (ioRead s p) := rfl

/-- Settles O18: the search is a first match over the installation order, and only the disk station and the peripheral
modules take part in it. -/
theorem ioReadFirstClaimAnswers : Obligations.IoReadFirstClaimAnswers := by
  refine ⟨fun s p before after m v hs hb hm => ?_, fun s p hnone => ?_, fun s p m d hk => ?_⟩
  · have hfirst : s.mods.findSome? (fun x => x.readIO s p) = some v := by
      rw [hs]
      exact findSome?_first _ hb hm
    rw [exec_iord, ioRead_of_claim hfirst]
  · rw [exec_iord, ioRead_unclaimed hnone]
    rfl
  · have hother : m.params.kind ≠ .ds ∧ m.params.kind ≠ .peripheral := by
      rcases hk with ⟨image, hrom⟩ | ⟨we, hram⟩
      · simp [hrom]
      · simp [hram]
    obtain ⟨hds, hper⟩ := hother
    exact ⟨Module.readIO_rom_ram_none s p hds hper, Module.claimIoWrite_rom_ram_none s p hds hper⟩

end Sys2Proof.Machine
end

/-! PROOFS. The window decoder family (41_window_decoder.md): the base, the membership test and the store index (R101 to
R103), the claim test (R104), the ROMs (R105, R108, R109) and the four banks of the `EXT` ROM (R180). -/

section

namespace Sys2Proof

open Sys2Proof.Machine

/-! ## Masks of whole windows (R5) -/

/-- A mask of `n` ones above `k` zeros keeps a field of `n` bits. -/
theorem and_shifted_ones (x n k : Nat) : x &&& 2 ^ k * (2 ^ n - 1) = 2 ^ k * (x / 2 ^ k % 2 ^ n) := by
  rw [← Nat.shiftRight_eq_div_pow, Nat.mul_comm (2 ^ k), Nat.mul_comm (2 ^ k), ← Nat.shiftLeft_eq, ← Nat.shiftLeft_eq]
  refine Nat.eq_of_testBit_eq fun i => ?_
  simp only [Nat.testBit_and, Nat.testBit_shiftLeft, Nat.testBit_two_pow_sub_one, Nat.testBit_mod_two_pow,
    Nat.testBit_shiftRight]
  by_cases hi : k ≤ i
  · simp [hi, Bool.and_comm]
  · simp [hi]

theorem two_pow_dvd_and {x y k : Nat} (h : 2 ^ k ∣ y) : 2 ^ k ∣ x &&& y :=
  Nat.dvd_of_mod_eq_zero (by rw [Nat.and_mod_two_pow, Nat.mod_eq_zero_of_dvd h, Nat.and_zero])

/-- `log2 W`. -/
def WindowSize.log : WindowSize → Nat
  | .k8 => 13
  | .k16 => 14
  | .k32 => 15
  | .k64 => 16

theorem WindowSize.bytes_eq_two_pow (w : WindowSize) : w.bytes = 2 ^ w.log := by cases w <;> rfl

theorem WindowSize.log_le (w : WindowSize) : w.log ≤ 16 := by cases w <;> decide

theorem WindowSize.bytes_pos (w : WindowSize) : 0 < w.bytes := by simp [w.bytes_eq_two_pow]

/-- Windows divide the address space (R41). -/
theorem WindowSize.bytes_dvd (w : WindowSize) : w.bytes ∣ 0x10000 := by cases w <;> decide

theorem WindowSize.bytes_dvd_and {w : WindowSize} {x y : Nat} (h : w.bytes ∣ y) : w.bytes ∣ x &&& y := by
  rw [w.bytes_eq_two_pow] at h ⊢
  exact two_pow_dvd_and h

theorem WindowSize.maskAligned_iff (w : WindowSize) (mask : Nat) : maskAligned mask w.bytes = true ↔ w.bytes ∣ mask := by
  rw [maskAligned, beq_iff_eq, w.bytes_eq_two_pow, Nat.and_two_pow_sub_one_eq_mod, Nat.dvd_iff_mod_eq_zero]

/-- R103: the mask `0x10000 - W` rounds an address down to a whole number of windows. -/
theorem WindowSize.addr_and_mask (w : WindowSize) (a : Addr) :
    a.toNat &&& (0x10000 - w.bytes) = w.bytes * (a.toNat / w.bytes) := by
  have hmask : 0x10000 - w.bytes = 2 ^ w.log * (2 ^ (16 - w.log) - 1) := by cases w <;> rfl
  have hfield : a.toNat / 2 ^ w.log < 2 ^ (16 - w.log) := by
    have ha : a.toNat < 0x10000 := a.isLt
    refine Nat.div_lt_of_lt_mul ?_
    cases w <;> exact ha
  rw [hmask, and_shifted_ones, Nat.mod_eq_of_lt hfield, ← w.bytes_eq_two_pow]

/-! ## A well-formed decoder (R101 to R103) -/

theorem Decoder.wf_iff (d : Decoder) : d.wf = true ↔
    d.window.bytes ∣ d.alignMask.toNat ∧ 2 ^ Nat.log2 d.storeSize = d.storeSize ∧ d.window.bytes ≤ d.storeSize ∧
      d.segShift ≤ 16 ∧ d.storeMask < d.storeSize ∧ d.window.bytes ∣ d.storeMask := by
  simp [Decoder.wf, WindowSize.maskAligned_iff, and_assoc]

/-- R103, compared as integers. -/
theorem Decoder.inWindow_iff (d : Decoder) (status : Byte) (a : Addr) : d.inWindow status a = true ↔
    d.baseAddress status ≤ a.toNat ∧ a.toNat < d.baseAddress status + d.window.bytes := by
  simp [Decoder.inWindow]

section WellFormedDecoder

variable {d : Decoder} {status : Byte} {a : Addr}

theorem Decoder.bytes_dvd_baseAddress (h : d.wf = true) : d.window.bytes ∣ d.baseAddress status := by
  obtain ⟨halign, -⟩ := d.wf_iff.1 h
  exact WindowSize.bytes_dvd_and halign

theorem Decoder.bytes_dvd_segmentMask (h : d.wf = true) : d.window.bytes ∣ d.segmentMask status := by
  obtain ⟨-, -, -, -, -, hmask⟩ := d.wf_iff.1 h
  unfold Decoder.segmentMask
  split
  · exact dvd_zero _
  · exact WindowSize.bytes_dvd_and hmask

/-- R101: base and address space are whole numbers of windows, so a base below the end leaves room for one more. -/
theorem Decoder.window_no_wrap (h : d.wf = true) : d.baseAddress status + d.window.bytes ≤ 0x10000 := by
  have hbase : d.baseAddress status < 0x10000 := lt_of_le_of_lt Nat.and_le_right d.alignMask.isLt
  have hroom : d.window.bytes ≤ 0x10000 - d.baseAddress status :=
    Nat.le_of_dvd (by omega) (Nat.dvd_sub d.window.bytes_dvd (Decoder.bytes_dvd_baseAddress h))
  omega

/-- R103: the base of the window an address is in is the address rounded down. -/
theorem Decoder.inWindow_iff_rounded (h : d.wf = true) :
    d.inWindow status a = true ↔ d.window.bytes * (a.toNat / d.window.bytes) = d.baseAddress status := by
  have hpos := d.window.bytes_pos
  obtain ⟨q, hq⟩ := Decoder.bytes_dvd_baseAddress (status := status) h
  rw [d.inWindow_iff, hq, Nat.mul_right_inj hpos.ne', Nat.div_eq_iff hpos, Nat.mul_comm q]
  omega

theorem Decoder.offset_eq_mod (h : d.wf = true) (hw : d.inWindow status a = true) :
    d.offset status a = a.toNat % d.window.bytes := by
  rw [Decoder.offset, ← (Decoder.inWindow_iff_rounded h).1 hw, Nat.mod_eq_sub]

theorem Decoder.offset_lt (h : d.wf = true) (hw : d.inWindow status a = true) : d.offset status a < d.window.bytes := by
  rw [Decoder.offset_eq_mod h hw]
  exact Nat.mod_lt _ d.window.bytes_pos

/-- R103: the offset has bits below `W` only and the segment none there, so their union is their sum. -/
theorem Decoder.index_eq_add (h : d.wf = true) (hw : d.inWindow status a = true) :
    d.index status a = d.offset status a + d.segmentMask status := by
  have hlt : d.offset status a < 2 ^ d.window.log := by
    rw [← d.window.bytes_eq_two_pow]
    exact Decoder.offset_lt h hw
  obtain ⟨q, hq⟩ := Decoder.bytes_dvd_segmentMask (status := status) h
  rw [Decoder.index, hq, d.window.bytes_eq_two_pow, Nat.lor_comm, ← Nat.two_pow_add_eq_or_of_lt hlt, Nat.add_comm]

/-- The offset is read back from an index, as its remainder by `W`. -/
theorem Decoder.index_mod (h : d.wf = true) (hw : d.inWindow status a = true) :
    d.index status a % d.window.bytes = d.offset status a := by
  obtain ⟨q, hq⟩ := Decoder.bytes_dvd_segmentMask (status := status) h
  rw [Decoder.index_eq_add h hw, hq, Nat.add_mul_mod_self_left, Nat.mod_eq_of_lt (Decoder.offset_lt h hw)]

end WellFormedDecoder

/-- Settles O13: base, address space and segment are whole numbers of windows, and the offset is the remainder. -/
theorem windowIndexStaysInsideStore : Obligations.WindowIndexStaysInsideStore := by
  intro d status a h
  refine ⟨Nat.mod_eq_zero_of_dvd (Decoder.bytes_dvd_baseAddress h), Decoder.window_no_wrap h, ?_, fun hw =>
    ⟨Decoder.offset_eq_mod h hw, Decoder.index_eq_add h hw, Decoder.index_lt h hw⟩⟩
  rw [d.window.addr_and_mask]
  exact Decoder.inWindow_iff_rounded h

/-- Settles O14: an index determines its offset by the remainder, and then its segment. -/
theorem segmentsNeverAlias : Obligations.SegmentsNeverAlias := by
  intro d s₁ s₂ a₁ a₂ h hw₁ hw₂ hindex
  have hoffset : d.offset s₁ a₁ = d.offset s₂ a₂ := by
    rw [← Decoder.index_mod h hw₁, hindex, Decoder.index_mod h hw₂]
  rw [Decoder.index_eq_add h hw₁, Decoder.index_eq_add h hw₂, hoffset] at hindex
  exact ⟨Nat.add_left_cancel hindex, hoffset⟩

/-! ## The window of the disk station's ROM (R109, R180) -/

theorem DsRomWindow.window_bytes (w : DsRomWindow) : w.window.bytes = w.bytes := by cases w <;> rfl

theorem DsRomWindow.wideWindow_bytes (w : DsRomWindow) : w.wideWindow.bytes = 4 * w.bytes := by cases w <;> rfl

/-- `N = W` (R109) is the power of two that R5 asks for. -/
theorem WindowSize.two_pow_log2_bytes (w : WindowSize) : 2 ^ Nat.log2 w.bytes = w.bytes := by
  rw [w.bytes_eq_two_pow, Nat.log2_two_pow]

/-- So is `N = 4 * W` (R180). -/
theorem WindowSize.two_pow_log2_four_mul_bytes (w : WindowSize) : 2 ^ Nat.log2 (4 * w.bytes) = 4 * w.bytes := by
  have hpow : 4 * w.bytes = 2 ^ (w.log + 2) := by
    rw [w.bytes_eq_two_pow, pow_add, Nat.mul_comm (2 ^ w.log)]
    rfl
  rw [hpow, Nat.log2_two_pow]

theorem DsParams.extWindowLog_eq (d : DsParams) : d.extWindowLog = d.romWindow.wideWindow.log := by
  rw [DsParams.extWindowLog, ← DsRomWindow.wideWindow_bytes, WindowSize.bytes_eq_two_pow, Nat.log2_two_pow]

theorem DsParams.romAlignMask_dvd {d : DsParams} (h : d.wf = true) : d.romWindow.bytes ∣ d.romAlignMask.toNat := by
  have halign : maskAligned d.romAlignMask.toNat d.romWindow.bytes = true := by
    simp only [DsParams.wf, Bool.and_eq_true] at h
    obtain ⟨⟨⟨⟨⟨⟨⟨⟨⟨_, halign⟩, _⟩, _⟩, _⟩, _⟩, _⟩, _⟩, _⟩, _⟩ := h
    exact halign
  rw [← DsRomWindow.window_bytes] at halign ⊢
  exact (WindowSize.maskAligned_iff _ _).1 halign

theorem DsParams.bankShift_le {d : DsParams} {e : ExtParams} (h : d.wf = true) (hv : d.variant = .ext e) :
    e.bankShift ≤ d.extWindowLog := by
  simp only [DsParams.wf, hv, Bool.and_eq_true] at h
  obtain ⟨_, hext⟩ := h
  simp only [DsParams.extWf, Bool.and_eq_true, decide_eq_true_eq] at hext
  obtain ⟨⟨⟨⟨⟨⟨⟨⟨⟨⟨_, hshift⟩, _⟩, _⟩, _⟩, _⟩, _⟩, _⟩, _⟩, _⟩, _⟩ := hext
  exact hshift

theorem DsParams.romDecoder_base {d : DsParams} (hv : d.variant = .base) : d.romDecoder =
    { window := d.romWindow.window, alignMask := d.romAlignMask, storeSize := d.romWindow.window.bytes
      segShift := 0, storeMask := 0 } := by
  rw [DsParams.romDecoder, hv]

theorem DsParams.romDecoder_ext {d : DsParams} {e : ExtParams} (hv : d.variant = .ext e) : d.romDecoder =
    { window := d.romWindow.wideWindow
      alignMask := d.romAlignMask &&& BitVec.ofNat 16 (0x10000 - d.romWindow.wideWindow.bytes)
      storeSize := 4 * d.romWindow.wideWindow.bytes, segShift := e.bankShift
      storeMask := 3 * d.romWindow.wideWindow.bytes } := by
  rw [DsParams.romDecoder, hv]

/-- R109: the store is one window, so there is no segment. -/
theorem DsParams.segmentMask_base {d : DsParams} (hv : d.variant = .base) (status : Byte) :
    d.romDecoder.segmentMask status = 0 := by
  rw [DsParams.romDecoder_base hv, Decoder.segmentMask, if_pos rfl]

theorem DsParams.romDecoder_wf_base {d : DsParams} (hv : d.variant = .base) (h : d.wf = true) :
    d.romDecoder.wf = true := by
  have hdvd := DsParams.romAlignMask_dvd h
  rw [← DsRomWindow.window_bytes] at hdvd
  rw [DsParams.romDecoder_base hv]
  exact (Decoder.wf_iff _).2 ⟨hdvd, WindowSize.two_pow_log2_bytes _, le_rfl, Nat.zero_le _, WindowSize.bytes_pos _,
    dvd_zero _⟩

/-- R180: the second masking, on unbounded integers. -/
theorem DsParams.alignMask_ext {d : DsParams} {e : ExtParams} (hv : d.variant = .ext e) :
    d.romDecoder.alignMask.toNat = d.romAlignMask.toNat &&& (0x10000 - d.romWindow.wideWindow.bytes) := by
  have hpos := d.romWindow.wideWindow.bytes_pos
  have hlt : 0x10000 - d.romWindow.wideWindow.bytes < 2 ^ 16 := by omega
  rw [DsParams.romDecoder_ext hv, BitVec.toNat_and, BitVec.toNat_ofNat, Nat.mod_eq_of_lt hlt]

/-- R180: whatever bits R5 leaves in the base mask below the wide window, the second masking clears (log 17). -/
theorem DsParams.romDecoder_wf_ext {d : DsParams} {e : ExtParams} (hv : d.variant = .ext e) (h : d.wf = true) :
    d.romDecoder.wf = true := by
  have hdvd : d.romWindow.wideWindow.bytes ∣ d.romDecoder.alignMask.toNat := by
    rw [DsParams.alignMask_ext hv]
    exact WindowSize.bytes_dvd_and (Nat.dvd_sub (WindowSize.bytes_dvd _) dvd_rfl)
  have hshift : e.bankShift ≤ 16 := (DsParams.bankShift_le h hv).trans (d.extWindowLog_eq ▸ WindowSize.log_le _)
  have hpos := d.romWindow.wideWindow.bytes_pos
  rw [DsParams.romDecoder_ext hv] at hdvd ⊢
  exact (Decoder.wf_iff _).2 ⟨hdvd, WindowSize.two_pow_log2_four_mul_bytes _, Nat.le_mul_of_pos_left _ (by decide), hshift,
    Nat.mul_lt_mul_of_pos_right (by decide) hpos, Nat.dvd_mul_left _ _⟩

/-- D25: with `DS2_BANK_SHIFT <= log2 W`, the bits from `log2 W` on of the shifted status are those of the status. -/
theorem shiftLeft_div_two_pow {x b k : Nat} (h : b ≤ k) : (x <<< b) / 2 ^ k = x >>> (k - b) := by
  rw [Nat.shiftLeft_eq, Nat.shiftRight_eq_div_pow, ← Nat.sub_add_cancel h, pow_add, Nat.add_sub_cancel,
    Nat.mul_div_mul_right _ _ (Nat.two_pow_pos b)]

/-- R180 (D25): the bank mask is `3 * W`, two ones above `log2 W` zeros. -/
theorem DsParams.segmentMask_ext {d : DsParams} {e : ExtParams} (hv : d.variant = .ext e)
    (hshift : e.bankShift ≤ d.extWindowLog) (status : Byte) : d.romDecoder.segmentMask status =
      4 * d.romWindow.bytes * ((status.toNat >>> (d.extWindowLog - e.bankShift)) % 4) := by
  have hpow : 2 ^ d.extWindowLog = d.romWindow.wideWindow.bytes := by
    rw [d.extWindowLog_eq, WindowSize.bytes_eq_two_pow]
  have hmask : 3 * d.romWindow.wideWindow.bytes = 2 ^ d.extWindowLog * (2 ^ 2 - 1) := by
    rw [hpow, Nat.mul_comm]
    rfl
  have hstore : 4 * d.romWindow.wideWindow.bytes ≠ d.romWindow.wideWindow.bytes := by
    have hpos := d.romWindow.wideWindow.bytes_pos
    omega
  calc d.romDecoder.segmentMask status
      = (status.toNat <<< e.bankShift) &&& 2 ^ d.extWindowLog * (2 ^ 2 - 1) := by
        rw [DsParams.romDecoder_ext hv, Decoder.segmentMask, if_neg hstore, ← hmask]
    _ = 2 ^ d.extWindowLog * ((status.toNat <<< e.bankShift) / 2 ^ d.extWindowLog % 2 ^ 2) := and_shifted_ones _ _ _
    _ = 4 * d.romWindow.bytes * ((status.toNat >>> (d.extWindowLog - e.bankShift)) % 4) := by
        rw [shiftLeft_div_two_pow hshift, hpow, DsRomWindow.wideWindow_bytes]
        rfl

/-- Settles O15: the second masking makes the base a whole number of wide windows, and the bank mask selects two bits. -/
theorem extRomWindowHasFourBanks : Obligations.ExtRomWindowHasFourBanks := by
  intro d e hv h
  refine ⟨DsParams.romDecoder_wf_ext hv h, ?_, ?_, DsParams.segmentMask_ext hv (DsParams.bankShift_le h hv)⟩
  · rw [DsParams.romDecoder_ext hv, DsRomWindow.wideWindow_bytes]
  · rw [DsParams.romDecoder_ext hv, DsRomWindow.wideWindow_bytes, ← Nat.mul_assoc]

end Sys2Proof

namespace Sys2Proof.Machine

/-! ## The claim test (R104) -/

section ClaimTest

variable {m : Module} {c : Config} {a : Addr} {d : Decoder}

/-- R104: a claim is the enable bit and the window test; its index is that of R103. -/
theorem Module.claimIndex_eq (hd : m.decoder? c = some d) : m.claimIndex c a =
    if (m.status.getLsbD 0 && d.inWindow m.status a) = true then some (d.index m.status a) else none := by
  rw [Module.claimIndex, hd]
  rfl

theorem Module.claimIndex_isSome_iff (hd : m.decoder? c = some d) : (m.claimIndex c a).isSome = true ↔
    m.status.getLsbD 0 = true ∧ d.baseAddress m.status ≤ a.toNat ∧
      a.toNat < d.baseAddress m.status + d.window.bytes := by
  rw [Module.claimIndex_eq hd, Option.isSome_ite, Bool.and_eq_true, d.inWindow_iff]

theorem Module.claimIndex_of_inWindow (hd : m.decoder? c = some d) (hen : m.status.getLsbD 0 = true)
    (hw : d.inWindow m.status a = true) : m.claimIndex c a = some (d.index m.status a) := by
  rw [Module.claimIndex_eq hd, hen, hw]
  rfl

/-- R104: disabled, or outside its window, a module claims nothing. -/
theorem Module.claimIndex_unclaimed (hd : m.decoder? c = some d)
    (h : m.status.getLsbD 0 = false ∨ d.inWindow m.status a = false) : m.claimIndex c a = none := by
  have hclaim : (m.status.getLsbD 0 && d.inWindow m.status a) = false := Bool.and_eq_false_iff.2 h
  rw [Module.claimIndex_eq hd, hclaim]
  rfl

theorem Module.claimIndex_none_of_no_decoder (hd : m.decoder? c = none) : m.claimIndex c a = none := by
  rw [Module.claimIndex, hd]

theorem Module.readMem_unclaimed (h : m.claimIndex c a = none) : m.readMem c a = none := by
  simp [Module.readMem, h]

/-- R105, R106, R109: a module with a window answers every read it claims. -/
theorem Module.readMem_isSome (hd : m.decoder? c = some d) :
    (m.readMem c a).isSome = (m.claimIndex c a).isSome := by
  cases hi : m.claimIndex c a with
  | none => rw [Module.readMem_unclaimed hi, Option.isSome_none, Option.isSome_none]
  | some i =>
    cases hk : m.params.kind with
    | rom dec image => simp [Module.readMem, hi, hk]
    | ram dec we => simp [Module.readMem, hi, hk]
    | peripheral => simp [Module.decoder?, hk] at hd
    | ds =>
      obtain ⟨p, hp, -⟩ : ∃ p, c.ds = some p ∧ p.romDecoder = d := by simpa [Module.decoder?, hk] using hd
      simp [Module.readMem, hi, hk, hp]

/-- R107: a RAM passes on no write it claims, protected or not. -/
theorem Module.writeMem_ram_handled_iff {we : Fin 8} (v : Byte) (hk : m.params.kind = .ram d we) :
    (m.writeMem c a v).1 ≠ .notHandled ↔ (m.claimIndex c a).isSome = true := by
  cases hi : m.claimIndex c a with
  | none => simp [Module.writeMem_unclaimed v hi]
  | some i =>
    cases hwe : m.writeEnable we with
    | false => simp [Module.writeMem_ram_protected v hk hi hwe]
    | true => simp [Module.writeMem_ram_enabled v hk hi hwe]

end ClaimTest

/-- Settles O10: reads and a RAM's writes are claimed exactly where there is a store index. -/
theorem claimTestIsEnableAndWindow : Obligations.ClaimTestIsEnableAndWindow := by
  intro c m a
  refine ⟨fun d hd => ?_, fun d we v hk => ?_, fun v hd => ?_⟩
  · rw [Module.readMem_isSome hd]
    exact Module.claimIndex_isSome_iff hd
  · have hd : m.decoder? c = some d := by simp [Module.decoder?, hk]
    exact (Module.writeMem_ram_handled_iff v hk).trans (Module.claimIndex_isSome_iff hd)
  · have hi : m.claimIndex c a = none := Module.claimIndex_none_of_no_decoder hd
    exact ⟨Module.readMem_unclaimed hi, Module.writeMem_unclaimed v hi⟩

/-! ## The ROMs (R105, R108, R109) -/

/-- The module is a ROM with this decoder and this image: a slot's ROM (R105) or the disk station's (R109). -/
def Module.HoldsRom (m : Module) (c : Config) (dec : Decoder) (image : List Host.Cell) : Prop :=
  m.params.kind = .rom dec image ∨
    ∃ d, c.ds = some d ∧ m.params.kind = .ds ∧ dec = d.romDecoder ∧ image = d.romImage

namespace Module.HoldsRom

variable {m : Module} {c : Config} {dec : Decoder} {image : List Host.Cell} {a : Addr} {i : Nat}

theorem decoder?_eq (h : m.HoldsRom c dec image) : m.decoder? c = some dec := by
  rcases h with hk | ⟨d, hds, hk, rfl, -⟩
  · simp [Module.decoder?, hk]
  · simp [Module.decoder?, hk, hds]

theorem readMem_eq (h : m.HoldsRom c dec image) (hi : m.claimIndex c a = some i) :
    m.readMem c a = some (romByte m.params.slotId image i) := by
  rcases h with hk | ⟨d, hds, hk, -, rfl⟩
  · simp [Module.readMem, hi, hk]
  · simp [Module.readMem, hi, hk, hds]

/-- R108: the outcome is the parameter, whatever the byte. -/
theorem writeMem_eq (h : m.HoldsRom c dec image) (v : Byte) (hi : m.claimIndex c a = some i) :
    m.writeMem c a v = (romOutcome c.romWriteOutcome, m) := by
  rcases h with hk | ⟨d, -, hk, -, -⟩
  · simp [Module.writeMem, hi, hk]
  · simp [Module.writeMem, hi, hk]

theorem writeMem_unchanged (h : m.HoldsRom c dec image) (c' : Config) (a : Addr) (v : Byte) :
    (m.writeMem c' a v).2 = m := by
  rcases writeMem_cases m c' a v with hsame | ⟨d, we, i, hram, -⟩
  · exact hsame
  · rcases h with hk | ⟨d, -, hk, -, -⟩ <;> simp [hk] at hram

end Module.HoldsRom

/-- Settles O12: both kinds of ROM read and write through the same rules, and the station's decoder has an equation per
variant. -/
theorem romReadsImageAndNeverChanges : Obligations.RomReadsImageAndNeverChanges := by
  refine ⟨fun c m dec image a v h => ?_, fun d => ⟨fun hv => ?_, fun e hv => ?_⟩⟩
  · have hrom : m.HoldsRom c dec image := h
    refine ⟨fun hen hw => ?_, fun hout => ?_, fun hen hw => ?_, hrom.writeMem_unchanged c a v⟩
    · exact hrom.readMem_eq (Module.claimIndex_of_inWindow hrom.decoder?_eq hen hw)
    · have hi : m.claimIndex c a = none := Module.claimIndex_unclaimed hrom.decoder?_eq hout
      exact ⟨Module.readMem_unclaimed hi, by rw [Module.writeMem_unclaimed v hi]⟩
    · rw [hrom.writeMem_eq v (Module.claimIndex_of_inWindow hrom.decoder?_eq hen hw)]
      cases c.romWriteOutcome <;> rfl
  · refine ⟨?_, ?_, ?_, DsParams.segmentMask_base hv, DsParams.romDecoder_wf_base hv⟩
    · rw [DsParams.romDecoder_base hv, DsRomWindow.window_bytes]
    · rw [DsParams.romDecoder_base hv, DsRomWindow.window_bytes]
    · rw [DsParams.romDecoder_base hv]
  · rw [DsParams.alignMask_ext hv, DsRomWindow.wideWindow_bytes]

end Sys2Proof.Machine
end

/-! PROOFS. The lifecycle family (42_secondary_lifecycle.md), the control port and the loop: the four actions and the edges that
trigger them (R120 to R123, R142), the recovery (R130, R206), the boot (R233) and the lost enable (R241). -/

section

namespace Sys2Proof

open Sys2Proof.Machine

/-! ## The rising bits (R142) -/

theorem mem_decodeEdges {order : List CtrlBit} {old : BitVec 4} {v : Byte} {b : CtrlBit} :
    b ∈ decodeEdges order old v ↔ b ∈ order ∧ v.getLsbD b.index = true ∧ old.getLsbD b.index = false := by
  simp [decodeEdges]

/-- A bit that `CTRL_EDGE_ORDER` lists triggers its action exactly when it rises. -/
theorem mem_decodeEdges_of_mem {order : List CtrlBit} {b : CtrlBit} (h : b ∈ order) (old : BitVec 4) (v : Byte) :
    b ∈ decodeEdges order old v ↔ v.getLsbD b.index = true ∧ old.getLsbD b.index = false :=
  mem_decodeEdges.trans (and_iff_right h)

/-- The byte `0x01` has no control bit but the enable. -/
theorem eq_enable_of_mem_decodeEdges_one {order : List CtrlBit} {old : BitVec 4} {b : CtrlBit}
    (h : b ∈ decodeEdges order old 0x01) : b = .enable := by
  obtain ⟨_, hv, _⟩ := mem_decodeEdges.1 h
  cases b with
  | enable => rfl
  | stop | reset | nmi => exact absurd hv (by decide)

/-- R242: the latched enable does not rise again. -/
theorem decodeEdges_one_held (order : List CtrlBit) {old : BitVec 4} (h : old.getLsbD 0 = true) :
    decodeEdges order old 0x01 = [] := by
  refine List.eq_nil_iff_forall_not_mem.2 fun b hb => ?_
  obtain ⟨_, _, hlow⟩ := mem_decodeEdges.1 hb
  rw [eq_enable_of_mem_decodeEdges_one hb] at hlow
  exact absurd (h.symm.trans hlow) (by decide)

theorem DsParams.enable_mem_edgeOrder {d : DsParams} (h : d.wf = true) : CtrlBit.enable ∈ d.edgeOrder := by
  simp only [DsParams.wf, Bool.and_eq_true] at h
  obtain ⟨⟨⟨⟨⟨⟨_, horder⟩, _⟩, _⟩, _⟩, _⟩, _⟩ := h
  simp only [edgeOrderWf, Bool.and_eq_true] at horder
  obtain ⟨⟨⟨⟨_, henable⟩, _⟩, _⟩, _⟩ := horder
  exact List.contains_iff_mem.1 henable

/-- R5 (log 12): an admitted configuration with a disk station has its module. -/
theorem Config.exists_ds_of_admits {c : Config} {ms : List ModuleParams} {d : DsParams} (h : c.admits ms = true)
    (hd : c.ds = some d) : ∃ p ∈ ms, p.kind = .ds := by
  have hds := Config.dsModulesWf_of_admits h
  simp only [Config.dsModulesWf, hd] at hds
  split at hds
  next q hq =>
    have hmem : q ∈ ms.filter (·.kind == .ds) := by simp [hq]
    rw [List.mem_filter, beq_iff_eq] at hmem
    exact ⟨q, hmem⟩
  next => exact absurd hds (by decide)

end Sys2Proof

namespace Sys2Proof.Machine

/-! ## The four actions (R120 to R123) -/

theorem enableCpu_of_live {s : State} (h : s.workerLive = true) : enableCpu s = s := if_pos h

theorem enableCpu_of_stopped {s : State} (h : s.workerLive = false) :
    enableCpu s = { s with workerLive := true, runLevel := .startingUp, coldPending := true } :=
  if_neg (by simp [h])

theorem enableCpu_setLatch (s : State) (x : BitVec 4) : enableCpu (s.setLatch x) = (enableCpu s).setLatch x := by
  unfold enableCpu
  rw [State.setLatch_workerLive]
  split <;> rfl

theorem enableCpu_live (s : State) : (enableCpu s).workerLive = true := by
  unfold enableCpu
  split
  next h => exact h
  next => rfl

section Actions

variable {s : State} {d : DsParams}

theorem exec_encpu (hd : s.cfg.ds = some d) : exec .encpu s = .next (enableCpu s) := withDs_some hd _

theorem exec_stopcpu (hd : s.cfg.ds = some d) : exec .stopcpu s = .next (requestStop s) := withDs_some hd _

theorem exec_rstcpu (hd : s.cfg.ds = some d) : exec .rstcpu s = .next (requestReset s) := withDs_some hd _

theorem exec_nmicpu (hd : s.cfg.ds = some d) : exec .nmicpu s = .next (requestNmi s) := withDs_some hd _

end Actions

/-- Settles O27. -/
theorem enableStartsOneWorker : Obligations.EnableStartsOneWorker := by
  refine ⟨fun order old v hmem => mem_decodeEdges_of_mem hmem old v, fun s d hd => ⟨fun hstopped => ?_, fun hlive => ?_⟩⟩
  · rw [exec_encpu hd, enableCpu_of_stopped hstopped]
  · rw [exec_encpu hd, enableCpu_of_live hlive]

/-- Settles O28. -/
theorem stopSetsDown : Obligations.StopSetsDown :=
  ⟨fun _ old v hmem => mem_decodeEdges_of_mem hmem old v, fun _ _ hd => exec_stopcpu hd⟩

/-- Settles O29. -/
theorem resetOnlyWhileRunning : Obligations.ResetOnlyWhileRunning := by
  refine ⟨fun order old v hmem => mem_decodeEdges_of_mem hmem old v, fun s d hd => ⟨fun hrun => ?_, fun hrun => ?_⟩⟩
  · rw [exec_rstcpu hd, requestReset, if_pos hrun]
    rfl
  · rw [exec_rstcpu hd, requestReset, if_neg hrun]

/-- Settles O30. -/
theorem nmiOnlyWhileRunning : Obligations.NmiOnlyWhileRunning := by
  refine ⟨fun order old v hmem => mem_decodeEdges_of_mem hmem old v, fun s d hd => ⟨fun hrun => ?_, fun hrun => ?_⟩⟩
  · rw [exec_nmicpu hd, requestNmi, if_pos hrun]
    rfl
  · rw [exec_nmicpu hd, requestNmi, if_neg hrun]

/-! ## Several actions in a row (R142) -/

/-- What none of the actions changes, their sequence does not change. -/
theorem foldl_runAction_keeps {α : Type} {f : State → α} {bits : List CtrlBit}
    (h : ∀ b ∈ bits, ∀ u, f (runAction u b) = f u) (s : State) : f (bits.foldl runAction s) = f s := by
  induction bits generalizing s with
  | nil => rfl
  | cons b bits ih =>
    rw [List.foldl_cons, ih (fun x hx => h x (List.mem_cons_of_mem _ hx)), h b (by simp)]

/-- R120: enabling does nothing while there is a worker. -/
theorem foldl_runAction_enables_of_live {bits : List CtrlBit} (hall : ∀ b ∈ bits, b = .enable) {s : State}
    (h : s.workerLive = true) : bits.foldl runAction s = s := by
  induction bits with
  | nil => rfl
  | cons b bits ih =>
    have hb : runAction s b = s := by rw [hall b (by simp)]; exact enableCpu_of_live h
    rw [List.foldl_cons, hb, ih fun x hx => hall x (List.mem_cons_of_mem _ hx)]

/-- R120: so any number of enables is one. -/
theorem foldl_runAction_enables {bits : List CtrlBit} (hall : ∀ b ∈ bits, b = .enable) (hne : bits ≠ [])
    (s : State) : bits.foldl runAction s = enableCpu s := by
  cases bits with
  | nil => exact absurd rfl hne
  | cons b bits =>
    have hb : runAction s b = enableCpu s := by rw [hall b (by simp)]; rfl
    rw [List.foldl_cons, hb,
      foldl_runAction_enables_of_live (fun x hx => hall x (List.mem_cons_of_mem _ hx)) (enableCpu_live s)]

/-! ## The control write (R142, R144, R186) -/

/-- The part of a control write before the clock-rate bit (R142): the latch, then the triggered actions. -/
def controlActions (d : DsParams) (s : State) (v : Byte) : State :=
  (decodeEdges d.edgeOrder s.latch v).foldl runAction (s.setLatch (v.extractLsb' 0 4))

theorem controlWrite_eq (d : DsParams) (s : State) (v : Byte) :
    controlWrite d s v = applyClockBit d (controlActions d s v) v := rfl

/-- What a control write leaves as it was or as its actions left it: the lifecycle is the actions', the latch the low
bits, and the constants, the modules and both memories of the secondary side are not written. -/
theorem controlWrite_frame (d : DsParams) (s : State) (v : Byte) :
    (controlWrite d s v).lifecycle = (controlActions d s v).lifecycle ∧
      (controlWrite d s v).latch = v.extractLsb' 0 4 ∧ (controlWrite d s v).cfg = s.cfg ∧
      (controlWrite d s v).mods = s.mods ∧ (controlWrite d s v).secMem = s.secMem ∧
      (controlWrite d s v).pageRam = s.pageRam := by
  obtain ⟨_, _, _, _, _, _, _, _, hspec, _⟩ := controlWrite_spec d s v
  refine ⟨?_, by rw [hspec], by rw [hspec], by rw [hspec], by rw [hspec], by rw [hspec]⟩
  rw [controlWrite_eq]
  rcases applyClockBit_cases d (controlActions d s v) v with ⟨h, _⟩ | ⟨_, _, _, _, h⟩ <;> rw [h]
  rfl

theorem State.lifecycle_eq_iff {s : State} {l : RunLevel} {w c : Bool} :
    s.lifecycle = (l, w, c) ↔ s.runLevel = l ∧ s.workerLive = w ∧ s.coldPending = c := by
  simp [State.lifecycle]

section EnableWrite

variable {s : State}

/-- R241, R242: with the bit in the latch, the control write `0x01` triggers nothing. -/
theorem controlWrite_one_held (d : DsParams) (h : s.latch.getLsbD 0 = true) :
    (controlWrite d s 0x01).lifecycle = s.lifecycle := by
  obtain ⟨hlife, _⟩ := controlWrite_frame d s 0x01
  rw [hlife, controlActions, decodeEdges_one_held _ h]
  rfl

/-- R120, R242: with the bit clear, the control write `0x01` is one enable. -/
theorem controlWrite_one_rises {d : DsParams} (hmem : CtrlBit.enable ∈ d.edgeOrder) (h : s.latch.getLsbD 0 = false) :
    (controlWrite d s 0x01).lifecycle = (enableCpu s).lifecycle := by
  obtain ⟨hlife, _⟩ := controlWrite_frame d s 0x01
  have hrises : CtrlBit.enable ∈ decodeEdges d.edgeOrder s.latch 0x01 := mem_decodeEdges.2 ⟨hmem, rfl, h⟩
  rw [hlife, controlActions, foldl_runAction_enables (fun b hb => eq_enable_of_mem_decodeEdges_one hb)
    (List.ne_nil_of_mem hrises), enableCpu_setLatch]
  rfl

end EnableWrite

/-- A disk station within R5 takes every write of its control port: it is there, its port is not gated, and no peripheral
module can claim before it. -/
structure State.ControlOpen (s : State) (d : DsParams) : Prop where
  ds : s.cfg.ds = some d
  wf : d.wf = true
  ungated : d.ctrlNeedsConnect = false
  station : ∃ m ∈ s.mods, m.params.kind = .ds
  alone : s.NoPeripheral

namespace State.ControlOpen

variable {s t : State} {d : DsParams}

theorem of_admits (hd : s.cfg.ds = some d) (h : s.cfg.admits s.modParams = true) (hgate : d.ctrlNeedsConnect = false)
    (hper : s.NoPeripheral) : s.ControlOpen d := by
  obtain ⟨p, hp, hk⟩ := Config.exists_ds_of_admits h hd
  obtain ⟨m, hm, rfl⟩ := List.mem_map.1 hp
  exact ⟨hd, Config.dsParams_wf (Config.wf_of_admits h) hd, hgate, ⟨m, hm, hk⟩, hper⟩

/-- It rests on the constants and the modules alone. -/
theorem congr (h : s.ControlOpen d) (hcfg : t.cfg = s.cfg) (hmods : t.mods = s.mods) : t.ControlOpen d where
  ds := hcfg ▸ h.ds
  wf := h.wf
  ungated := h.ungated
  station := hmods ▸ h.station
  alone := fun m hm => h.alone m (hmods ▸ hm)

/-- R144: the only possible claim is the disk station's, and it is made. -/
theorem exec_dsctl (h : s.ControlOpen d) (high v : Byte) :
    exec (.dsctl high v) s = .next ((controlWrite d s v).setAnswer (.hostWrite .handledWritten)) := by
  have hds : ∀ m : Module, m.params.kind = .ds → m.claimIoWrite s (mkPort high d.ctrlPort) = some .control :=
    fun m hk => Module.claimIoWrite_control h.ds hk (portLow_mkPort _ _) (.inr h.ungated)
  have honly : ∀ m ∈ s.mods, m.claimIoWrite s (mkPort high d.ctrlPort) = none ∨
      m.claimIoWrite s (mkPort high d.ctrlPort) = some .control := by
    intro m hm
    by_cases hk : m.params.kind = .ds
    · exact .inr (hds m hk)
    · exact .inl (Module.claimIoWrite_rom_ram_none s _ hk (h.alone m hm))
  obtain ⟨m, hm, hk⟩ := h.station
  have hclaim : ioWriteClaim s (mkPort high d.ctrlPort) = some .control :=
    findSome?_of_only honly ⟨m, hm, by simp [hds m hk]⟩
  calc exec (.dsctl high v) s = .next (ioWrite s (mkPort high d.ctrlPort) v) := withDs_some h.ds _
    _ = _ := by rw [ioWrite_control h.ds hclaim]

/-- R120, R142, R242: the control write `0x01` latches bit 0, enables if that bit was clear, and triggers nothing if it was
set. -/
theorem exec_enableWrite (h : s.ControlOpen d) :
    ∃ t, exec (.dsctl 0 0x01) s = .next t ∧ t.ControlOpen d ∧ t.latch = 1 ∧
      (s.latch.getLsbD 0 = false → t.lifecycle = (enableCpu s).lifecycle) ∧
      (s.latch.getLsbD 0 = true → t.lifecycle = s.lifecycle) ∧
      t.mods = s.mods ∧ t.secMem = s.secMem ∧ t.pageRam = s.pageRam := by
  obtain ⟨_, hlatch, hcfg, hmods, hsecMem, hpage⟩ := controlWrite_frame d s 0x01
  exact ⟨_, h.exec_dsctl 0 0x01, h.congr hcfg hmods, hlatch,
    controlWrite_one_rises (DsParams.enable_mem_edgeOrder h.wf), controlWrite_one_held d, hmods, hsecMem, hpage⟩

end State.ControlOpen

/-! ## The lost enable (R241) -/

/-- Settles O34: with a live worker the enable is no change, and once the bit is in the latch it does not rise. -/
theorem enableWhileStoppingIsLost : Obligations.EnableWhileStoppingIsLost := by
  intro s d hd hlive hdown hlatch hadm hgate hper
  have hopen : s.ControlOpen d := .of_admits hd hadm hgate hper
  obtain ⟨t, ht, htopen, htlatch, htrises, _⟩ := hopen.exec_enableWrite
  have hkept : t.lifecycle = s.lifecycle := by
    rw [htrises (by rw [hlatch]; rfl), enableCpu_of_live hlive]
  obtain ⟨htlevel, htlive, _⟩ := State.lifecycle_eq_iff.1 hkept
  obtain ⟨hexit, _⟩ := workerExitOnlyWhenStopping t d htopen.ds
  have huopen : State.ControlOpen { t with workerLive := false, coldPending := false, answer := .silent } d :=
    htopen.congr rfl rfl
  obtain ⟨w, hw, _, hwlatch, _, hwheld, _⟩ := huopen.exec_enableWrite
  obtain ⟨hwlevel, hwlive, _⟩ := State.lifecycle_eq_iff.1 (hwheld (by rw [htlatch]; rfl))
  exact ⟨t, _, w, ht, hexit (htlive.trans hlive) (htlevel.trans hdown), hw, hkept, htlatch,
    hwlevel.trans (htlevel.trans hdown), hwlive, hwlatch⟩

/-! ## The boot (R233) -/

/-- Settles O35: the enable rises and starts the worker cold, and the loop entry clears once. -/
theorem bootKeepsBootstrapAndClearsRest : Obligations.BootKeepsBootstrapAndClearsRest := by
  intro s d hd hstopped hbit hadm hgate hper
  have hopen : s.ControlOpen d := .of_admits hd hadm hgate hper
  obtain ⟨t, ht, htopen, _, htrises, _, htmods, htmem, htpage⟩ := hopen.exec_enableWrite
  have hstarted : t.lifecycle = (.startingUp, true, true) := by
    rw [htrises hbit, enableCpu_of_stopped hstopped]
    rfl
  obtain ⟨hlevel, hworker, hcold⟩ := State.lifecycle_eq_iff.1 hstarted
  obtain ⟨hentry, _⟩ := loopEntryClearsOnceAndRuns t d htopen.ds
  obtain ⟨u, hexec, hu, hclear, _⟩ := hentry hworker hlevel
  obtain ⟨hlow, hhigh⟩ := hclear hcold
  refine ⟨t, u, ht, hexec, ?_, hlow, fun a ha => (hhigh a ha).trans ?_, ?_, ?_⟩
  · rw [hu]
    exact State.lifecycle_eq_iff.2 ⟨rfl, hworker, rfl⟩
  · rw [State.secByte, htmem, State.secByte]
  · rw [hu]
    exact htmods
  · rw [hu]
    exact htpage

/-! ## The recovery (R130, R206, R232) -/

/-- R124, R206: with no cold clear pending the re-entry writes no memory. -/
theorem exec_loopenter_warm {s : State} {d : DsParams} (hd : s.cfg.ds = some d) (hlive : s.workerLive = true)
    (hlevel : s.runLevel = .startingUp) (hcold : s.coldPending = false) :
    exec .loopenter s = .next { s with
      runLevel := .running, answer := .silent, events := s.events ++ [.secReset d.resetVector] } := by
  rw [exec_loopenter hd, if_pos (s.canEnter_iff.2 ⟨hlive, hlevel⟩), enterLoop_eq]
  simp [State.setAnswer, hcold]

/-- Settles O36: reset and fault both leave the worker starting up with no cold clear pending. -/
theorem recoveryKeepsMemory : Obligations.RecoveryKeepsMemory := by
  intro s d hd hlive hcold hrun
  have hlife : s.lifecycle = (.running, s.workerLive, s.coldPending) := by rw [State.lifecycle, hrun]
  obtain ⟨_, hactions⟩ := resetOnlyWhileRunning
  obtain ⟨hreset, _⟩ := hactions s d hd
  obtain ⟨hfault, _⟩ := secondaryFaultIsContained s d hd
  refine ⟨⟨_, _, hreset hrun, exec_loopenter_warm hd hlive rfl hcold, ?_⟩,
    ⟨_, _, hfault hlive hcold hrun, exec_loopenter_warm hd hlive rfl hcold, ?_⟩⟩
  · exact ⟨rfl, rfl, hlife.symm, rfl, rfl, rfl, rfl⟩
  · exact ⟨rfl, rfl, hlife.symm, rfl, rfl, rfl, List.append_assoc _ _ _⟩

end Sys2Proof.Machine
end

/-! PROOFS. The lifecycle family, over all operations: which ones change the lifecycle (R128), and which ones emit each event
(R203, with R148, R149, R186). -/

section

namespace Sys2Proof.Machine

/-! ## Which I/O writes can reach the control port (R5, R64) -/

/-- If the write of `v` to the port by the operation reaches the control port, the operation is a `DSCTL`. -/
def ControlOnlyByDsctl (i : Instr) (c : Config) (p : Port) (v : Byte) : Prop :=
  ∀ d, c.ds = some d → portLow p = d.ctrlPort → ∃ high, i = .dsctl high v

theorem brwr_controlOnlyByDsctl {c : Config} (h : c.wf = true) (page : BitVec 2) (high v : Byte) :
    ControlOnlyByDsctl (.brwr page high v) c (mkPort high (bridgePort page)) v :=
  fun _ hd hp => absurd hp (bridgePort_ne_ctrlPort h hd page high)

theorem iowr_controlOnlyByDsctl {c : Config} {p : Port} {v : Byte} (h : (Instr.iowr p v).wellFormed c = true) :
    ControlOnlyByDsctl (.iowr p v) c p v := by
  intro d hd hp
  simp only [Instr.wellFormed, hd, Option.any_some, Bool.and_eq_true, Bool.not_eq_true'] at h
  obtain ⟨_, hclaims⟩ := h
  obtain ⟨hctrl, _⟩ := (DsParams.claimsWritePort_eq_false_iff p).1 hclaims
  exact absurd hp hctrl

theorem dsctl_controlOnlyByDsctl (c : Config) (p : Port) (high v : Byte) :
    ControlOnlyByDsctl (.dsctl high v) c p v := fun _ _ _ => ⟨high, rfl⟩

/-- An I/O write keeps what every control write keeps, and what an answer or a bridge byte does not touch. -/
theorem ioWrite_sat {P : State → Prop} {s : State} {p : Port} {v : Byte} (hanswer : ∀ o, P (s.setAnswer o))
    (hbridge : ∀ x o, P ((s.setSecMem x).setAnswer o))
    (hcontrol : ∀ d o, s.cfg.ds = some d → portLow p = d.ctrlPort → P ((controlWrite d s v).setAnswer o)) :
    P (ioWrite s p v) := by
  rcases ioWrite_cases s p v with ⟨_, h⟩ | ⟨_, _, _, h⟩ | ⟨d, hd, hp, h⟩ <;> rw [h]
  · exact hanswer _
  · exact hbridge _ _
  · exact hcontrol d _ hd hp

/-! ## The lifecycle (R128) -/

@[simp] theorem State.setAnswer_lifecycle (s : State) (x : Answer) : (s.setAnswer x).lifecycle = s.lifecycle := rfl
@[simp] theorem State.emit_lifecycle (s : State) (e : Event) : (s.emit e).lifecycle = s.lifecycle := rfl

theorem typeRead_lifecycle (s : State) (slot : Byte) : (typeRead s slot).lifecycle = s.lifecycle := by
  obtain ⟨_, h⟩ := typeRead_eq s slot
  rw [h, State.setAnswer_lifecycle]

theorem ioRead_lifecycle (s : State) (p : Port) : (ioRead s p).lifecycle = s.lifecycle := by
  obtain ⟨_, _, h, _⟩ := ioRead_eq s p
  rw [h, State.setAnswer_lifecycle]

theorem statusWrite_lifecycle (s : State) (slot v : Byte) : (statusWrite s slot v).lifecycle = s.lifecycle := by
  unfold statusWrite
  split
  · rfl
  · split <;> rfl

theorem clockTick_lifecycle (d : DsParams) (s : State) : (clockTick d s).lifecycle = s.lifecycle := by
  obtain ⟨_, h, _⟩ := clockTick_spec d s
  rw [h]
  rfl

theorem secWrite_lifecycle (s : State) (a : Addr) (v : Byte) : (secWrite s a v).lifecycle = s.lifecycle := by
  rcases secWrite_cases s a v with ⟨_, h⟩ | ⟨_, h⟩ <;> rw [h] <;> rfl

theorem glowLoad_lifecycle (s : State) (i : Indicator) : (glowLoad s i).lifecycle = s.lifecycle := by
  cases i with
  | gide => rw [glowLoad_gide]; rfl
  | dma => rw [glowLoad_dma]; rfl

theorem hostReset_workerLive (s : State) : (hostReset s).workerLive = s.workerLive := by
  rcases hostReset_cases s with ⟨_, h⟩ | ⟨_, _, h⟩ <;> rw [h] <;> rfl

theorem enterLoop_workerLive (d : DsParams) (s : State) : (enterLoop d s).workerLive = s.workerLive := by
  rw [enterLoop_eq]

theorem containFault_workerLive (s : State) : (containFault s).workerLive = s.workerLive := by
  unfold containFault
  split <;> rfl

/-- R120 to R123: only the enable touches the worker flip-flop. -/
theorem runAction_workerLive {b : CtrlBit} (hb : b ≠ .enable) (s : State) : (runAction s b).workerLive = s.workerLive := by
  cases b with
  | enable => exact absurd rfl hb
  | stop => rfl
  | reset => simp only [runAction, requestReset]; split <;> rfl
  | nmi => simp only [runAction, requestNmi]; split <;> rfl

theorem requestNmi_lifecycle (s : State) : (requestNmi s).lifecycle = s.lifecycle := by
  unfold requestNmi
  split <;> rfl

/-- R142: a control write keeps a live worker, and starts one only where its bit 0 is set. -/
theorem controlWrite_workerLive (d : DsParams) (s : State) (v : Byte) :
    (s.workerLive = true → (controlWrite d s v).workerLive = true) ∧
      (s.workerLive = false → (controlWrite d s v).workerLive = true → v.getLsbD 0 = true) := by
  constructor
  · obtain ⟨_, _, _, _, _, _, _, _, h, hlive, _⟩ := controlWrite_spec d s v
    rw [h]
    exact hlive
  · intro hstopped hstarted
    by_contra hv
    have hkeep : (controlActions d s v).workerLive = s.workerLive := by
      refine foldl_runAction_keeps (f := State.workerLive) (fun b hb => runAction_workerLive ?_)
        (s.setLatch (v.extractLsb' 0 4))
      rintro rfl
      obtain ⟨_, hbit, _⟩ := mem_decodeEdges.1 hb
      exact hv hbit
    obtain ⟨hlife, _⟩ := controlWrite_frame d s v
    obtain ⟨_, hlive, _⟩ := State.lifecycle_eq_iff.1 hlife
    rw [hlive, hkeep, hstopped] at hstarted
    cases hstarted

/-- The operations that may change the lifecycle (R128). -/
def LifecycleOp (i : Instr) : Prop :=
  i = .hreset ∨ i = .encpu ∨ i = .stopcpu ∨ i = .rstcpu ∨ i = .loopenter ∨ i = .wexit ∨ i = .sfault ∨
    ∃ high v, i = .dsctl high v

/-- A worker ends by an exit and starts by an enable (R120, R125). -/
def WorkerRule (i : Instr) (s t : State) : Prop :=
  (s.workerLive = true → t.workerLive = false → i = .wexit) ∧
    (s.workerLive = false → t.workerLive = true → i = .encpu ∨ ∃ high v, i = .dsctl high v ∧ v.getLsbD 0 = true)

theorem WorkerRule.of_eq {i : Instr} {s t : State} (h : t.workerLive = s.workerLive) : WorkerRule i s t :=
  ⟨fun hs ht => absurd (hs.symm.trans (h.symm.trans ht)) (by decide),
    fun hs ht => absurd (hs.symm.trans (h.symm.trans ht)) (by decide)⟩

/-- What R128 allows an operation to do to the lifecycle. -/
def LifecycleStep (i : Instr) (s t : State) : Prop := t.lifecycle = s.lifecycle ∨ LifecycleOp i ∧ WorkerRule i s t

/-- An I/O write changes the lifecycle only as the control write of a `DSCTL`. -/
theorem ioWrite_lifecycleStep {i : Instr} {s : State} {p : Port} {v : Byte}
    (h : ControlOnlyByDsctl i s.cfg p v) :
    LifecycleStep i s (ioWrite s p v) := by
  refine ioWrite_sat (fun _ => .inl rfl) (fun _ _ => .inl rfl) fun d _ hd hp => ?_
  obtain ⟨high, rfl⟩ := h d hd hp
  obtain ⟨hkeep, hstart⟩ := controlWrite_workerLive d s v
  refine .inr ⟨by simp [LifecycleOp], fun hs ht => ?_, fun hs ht => .inr ⟨high, v, rfl, hstart hs ht⟩⟩
  exact absurd ((hkeep hs).symm.trans ht) (by decide)

/-- The operations one at a time: all but those of R128 go through shared operations that keep the lifecycle. -/
theorem exec_lifecycleStep {i : Instr} {s : State} (hwf : s.cfg.wf = true) (hi : i.wellFormed s.cfg = true) :
    NextSat (LifecycleStep i s) (exec i s) := by
  cases i with
  | mrd a => exact .next (.inl rfl)
  | mwr a v => exact .next (.inl rfl)
  | typerd slot => exact .next (.inl (typeRead_lifecycle s slot))
  | brrd page high => exact .next (.inl (ioRead_lifecycle s _))
  | iord p => exact .next (.inl (ioRead_lifecycle s p))
  | statwr slot v => exact .next (.inl (statusWrite_lifecycle s slot v))
  | dsctl high v => exact .withDs fun d _ => .next (ioWrite_lifecycleStep (dsctl_controlOnlyByDsctl _ _ high v))
  | brwr page high v => exact .next (ioWrite_lifecycleStep (brwr_controlOnlyByDsctl hwf page high v))
  | iowr p v => exact .next (ioWrite_lifecycleStep (iowr_controlOnlyByDsctl hi))
  | encpu =>
    refine .withDs fun d _ => .next (.inr ⟨by simp [LifecycleOp], fun _ ht => ?_, fun _ _ => .inl rfl⟩)
    exact absurd ((enableCpu_live s).symm.trans ht) (by decide)
  | stopcpu => exact .withDs fun d _ => .next (.inr ⟨by simp [LifecycleOp], .of_eq rfl⟩)
  | rstcpu =>
    exact .withDs fun d _ => .next (.inr ⟨by simp [LifecycleOp], .of_eq (runAction_workerLive (b := .reset) (by simp) s)⟩)
  | nmicpu => exact .withDs fun d _ => .next (.inl (requestNmi_lifecycle s))
  | hreset => exact .next (.inr ⟨by simp [LifecycleOp], .of_eq (hostReset_workerLive s)⟩)
  | tick => exact .withDs fun d _ => .next (.inl (clockTick_lifecycle d s))
  | speedchg k => exact .withDs fun d _ => .unless fun _ => .inl rfl
  | smrd a => exact .withDs fun d _ => .next (.inl rfl)
  | smwr a v => exact .withDs fun d _ => .next (.inl (secWrite_lifecycle s a v))
  | siord p => exact .withDs fun d _ => .next (.inl rfl)
  | drvsel high v => exact .withDs fun d _ => .next (.inl rfl)
  | gideact p v =>
    refine .withDs fun d _ => .next (.inl ?_)
    rw [State.setAnswer_lifecycle, State.emit_lifecycle]
    split
    · exact glowLoad_lifecycle s .gide
    · rfl
  | dmaact p v =>
    refine .withDs fun d _ => ?_
    cases d.variant with
    | base => exact .next (.inl rfl)
    | ext e => exact .next (.inl (glowLoad_lifecycle s .dma))
  | pagewr high v =>
    refine .withDs fun d _ => ?_
    cases d.variant with
    | base => exact .refused
    | ext e => exact .next (.inl rfl)
  | siowr p v => exact .withDs fun d _ => .next (.inl rfl)
  | loopenter =>
    exact .withDs fun d _ => .guarded fun _ => .inr ⟨by simp [LifecycleOp], .of_eq (enterLoop_workerLive d s)⟩
  | wexit =>
    refine .withDs fun d _ => .guarded fun _ => .inr ⟨by simp [LifecycleOp], fun _ _ => rfl, fun _ ht => ?_⟩
    exact absurd ht (by simp)
  | sfault =>
    exact .withDs fun d _ => .guarded fun _ => .inr ⟨by simp [LifecycleOp], .of_eq (containFault_workerLive s)⟩

/-- Settles O56. -/
theorem lifecycleChangesOnlyByItsOperations : Obligations.LifecycleChangesOnlyByItsOperations := by
  intro i s t hwf hi hexec hchanged
  rcases exec_lifecycleStep hwf hi t hexec with hkept | ⟨hop, hends, hstarts⟩
  · exact absurd hkept hchanged
  · exact ⟨hop, hends, hstarts⟩

/-! ## The events (R203) -/

/-- Which operation, in which state, may emit an event (R203, R148, R149, R186; `DMAACT` not forwarded: log 18). -/
def EventSource (i : Instr) (s : State) : Event → Prop
  | .secReset _ => i = .loopenter
  | .errorReport c => i = .sfault ∧ c = .secondaryFault
  | .ctc0Pulse => i = .tick
  | .secNmi => (i.agent = .host ∧ s.runLevel = .running) ∧
      (s.cfg.wf = true → i.wellFormed s.cfg = true →
        i = .nmicpu ∨ ∃ high v, i = .dsctl high v ∧ v.getLsbD 3 = true ∧ s.latch.getLsbD 3 = false)
  | .dirty .gide => i = .tick ∨ ∃ p v, i = .gideact p v
  | .dirty .dma => i = .tick ∨ ∃ p v, i = .dmaact p v
  | .chipIoRead p => i = .siord p
  | .secSpeed _ => s.cfg.wf = true → i.wellFormed s.cfg = true →
      (∃ high v, i = .dsctl high v) ∧ ∃ d e, s.cfg.ds = some d ∧ d.variant = .ext e ∧ d.fixedSpeed = none
  | .chipIoWrite p v => s.cfg.wf = true → i.wellFormed s.cfg = true →
      i = .siowr p v ∨ i = .gideact p v ∨ (∃ high, i = .drvsel high v) ∨ ∃ high, i = .pagewr high v

/-- Events are only added, each by an operation that may emit it. -/
def AddsEvents (i : Instr) (s t : State) : Prop := ∃ es, t.events = s.events ++ es ∧ ∀ e ∈ es, EventSource i s e

namespace AddsEvents

variable {i : Instr} {s t : State}

theorem none (h : t.events = s.events) : AddsEvents i s t := ⟨[], by simp [h], by simp⟩

theorem one {e : Event} (h : t.events = s.events ++ [e]) (he : EventSource i s e) : AddsEvents i s t :=
  ⟨[e], h, by simpa using he⟩

/-- An event that is emitted under a condition. -/
theorem oneIf {e : Event} {b : Prop} [Decidable b] (h : t.events = s.events ++ if b then [e] else [])
    (he : b → EventSource i s e) : AddsEvents i s t := by
  by_cases hb : b
  · exact .one (by rw [h, if_pos hb]) (he hb)
  · exact .none (by rw [h, if_neg hb, List.append_nil])

/-- One more event. -/
theorem emit (h : AddsEvents i s t) {e : Event} (he : EventSource i s e) : AddsEvents i s (t.emit e) := by
  obtain ⟨es, hes, hall⟩ := h
  refine ⟨es ++ [e], by simp [hes], fun x hx => ?_⟩
  rcases List.mem_append.1 hx with hx | hx
  · exact hall x hx
  · rw [List.mem_singleton.1 hx]
    exact he

end AddsEvents

theorem typeRead_events (s : State) (slot : Byte) : (typeRead s slot).events = s.events := by
  obtain ⟨_, h⟩ := typeRead_eq s slot
  rw [h, State.setAnswer_events]

theorem ioRead_events (s : State) (p : Port) : (ioRead s p).events = s.events := by
  obtain ⟨_, _, h, _⟩ := ioRead_eq s p
  rw [h, State.setAnswer_events]

theorem statusWrite_events (s : State) (slot v : Byte) : (statusWrite s slot v).events = s.events := by
  unfold statusWrite
  split
  · rfl
  · split <;> rfl

theorem secWrite_events (s : State) (a : Addr) (v : Byte) : (secWrite s a v).events = s.events := by
  rcases secWrite_cases s a v with ⟨_, h⟩ | ⟨_, h⟩ <;> rw [h] <;> rfl

theorem hostReset_events (s : State) : (hostReset s).events = s.events := by
  rcases hostReset_cases s with ⟨_, h⟩ | ⟨_, _, h⟩ <;> rw [h] <;> rfl

/-- R120 to R123: only the NMI emits. -/
theorem runAction_events {b : CtrlBit} (hb : b ≠ .nmi) (s : State) : (runAction s b).events = s.events := by
  cases b with
  | nmi => exact absurd rfl hb
  | stop => rfl
  | enable => simp only [runAction, enableCpu]; split <;> rfl
  | reset => simp only [runAction, requestReset]; split <;> rfl

theorem requestNmi_addsEvents {i : Instr} {s : State} (h : s.runLevel = .running → EventSource i s .secNmi) :
    AddsEvents i s (requestNmi s) := by
  unfold requestNmi
  split
  next hrun => exact .one rfl (h hrun)
  next => exact .none rfl

/-- R123, R142: the actions of a control write emit NMIs alone, only while `Running`, and only where bit 3 rises. -/
theorem controlActions_events (d : DsParams) (s : State) (v : Byte) :
    ∃ es, (controlActions d s v).events = s.events ++ es ∧
      ∀ x ∈ es, x = .secNmi ∧ s.runLevel = .running ∧ v.getLsbD 3 = true ∧ s.latch.getLsbD 3 = false := by
  by_cases hnmi : CtrlBit.nmi ∈ decodeEdges d.edgeOrder s.latch v
  · obtain ⟨_, hrises⟩ := mem_decodeEdges.1 hnmi
    obtain ⟨_, _, _, es, h, hes, _⟩ :=
      foldl_runAction_spec (decodeEdges d.edgeOrder s.latch v) (s.setLatch (v.extractLsb' 0 4))
    refine ⟨es, by rw [controlActions, h]; rfl, fun x hx => ?_⟩
    obtain ⟨hx, hrun⟩ := hes x hx
    exact ⟨hx, hrun, hrises⟩
  · refine ⟨[], ?_, by simp⟩
    rw [List.append_nil]
    exact foldl_runAction_keeps (f := State.events)
      (fun b hb => runAction_events fun hne => hnmi (hne ▸ hb)) (s.setLatch (v.extractLsb' 0 4))

/-- R142, R186: the events of a control write, by the operation that carries it. -/
theorem controlWrite_addsEvents {i : Instr} {d : DsParams} {s : State} {v : Byte} (hd : s.cfg.ds = some d)
    (hagent : i.agent = .host)
    (hdsctl : s.cfg.wf = true → i.wellFormed s.cfg = true → ∃ high, i = .dsctl high v) :
    AddsEvents i s (controlWrite d s v) := by
  have hactions : AddsEvents i s (controlActions d s v) := by
    obtain ⟨es, h, hes⟩ := controlActions_events d s v
    refine ⟨es, h, fun x hx => ?_⟩
    obtain ⟨rfl, hrun, hrises⟩ := hes x hx
    refine ⟨⟨hagent, hrun⟩, fun hwf hi => ?_⟩
    obtain ⟨high, rfl⟩ := hdsctl hwf hi
    exact .inr ⟨high, v, rfl, hrises⟩
  rw [controlWrite_eq]
  rcases applyClockBit_cases d (controlActions d s v) v with ⟨h, _⟩ | ⟨e, hv, hf, _, h⟩ <;> rw [h]
  · exact hactions
  · refine AddsEvents.emit hactions fun hwf hi => ?_
    obtain ⟨high, rfl⟩ := hdsctl hwf hi
    exact ⟨⟨high, v, rfl⟩, d, e, hd, hv, hf⟩

theorem ioWrite_addsEvents {i : Instr} {s : State} {p : Port} {v : Byte} (hagent : i.agent = .host)
    (h : s.cfg.wf = true → i.wellFormed s.cfg = true → ControlOnlyByDsctl i s.cfg p v) :
    AddsEvents i s (ioWrite s p v) :=
  ioWrite_sat (fun _ => .none rfl) (fun _ _ => .none rfl) fun d _ hd hp =>
    controlWrite_addsEvents hd hagent fun hwf hi => h hwf hi d hd hp

/-- R160, R162: the events of a tick. -/
theorem clockTick_addsEvents (d : DsParams) (s : State) : AddsEvents .tick s (clockTick d s) := by
  obtain ⟨es, h, hes⟩ := clockTick_spec d s
  refine ⟨es, by rw [h], fun x hx => ?_⟩
  simp only [hes, List.mem_append, List.mem_ite_nil_right, List.mem_singleton] at hx
  rcases hx with (⟨_, rfl⟩ | ⟨_, rfl⟩) | ⟨_, rfl⟩
  · rfl
  · exact .inl rfl
  · exact .inl rfl

theorem containFault_addsEvents (s : State) : AddsEvents .sfault s (containFault s) := by
  unfold containFault
  split <;> exact .one rfl ⟨rfl, rfl⟩

/-- R185: `DMAACT` is an operation of `EXT` alone. -/
theorem dmaact_not_base {c : Config} {d : DsParams} {p : Port} {v : Byte} (hd : c.ds = some d)
    (hv : d.variant = .base) : (Instr.dmaact p v).wellFormed c = false := by
  simp [Instr.wellFormed, hd, DsParams.isDmaAct, DsParams.ext?, hv]

/-- The operations one at a time. -/
theorem exec_addsEvents (i : Instr) (s : State) : NextSat (AddsEvents i s) (exec i s) := by
  cases i with
  | mrd a => exact .next (.none rfl)
  | mwr a v => exact .next (.none rfl)
  | typerd slot => exact .next (.none (typeRead_events s slot))
  | brrd page high => exact .next (.none (ioRead_events s _))
  | iord p => exact .next (.none (ioRead_events s p))
  | statwr slot v => exact .next (.none (statusWrite_events s slot v))
  | dsctl high v =>
    exact .withDs fun d _ => .next (ioWrite_addsEvents rfl fun _ _ => dsctl_controlOnlyByDsctl _ _ high v)
  | brwr page high v => exact .next (ioWrite_addsEvents rfl fun hwf _ => brwr_controlOnlyByDsctl hwf page high v)
  | iowr p v => exact .next (ioWrite_addsEvents rfl fun _ hi => iowr_controlOnlyByDsctl hi)
  | encpu => exact .withDs fun d _ => .next (.none (runAction_events (b := .enable) (by simp) s))
  | stopcpu => exact .withDs fun d _ => .next (.none rfl)
  | rstcpu => exact .withDs fun d _ => .next (.none (runAction_events (b := .reset) (by simp) s))
  | nmicpu => exact .withDs fun d _ => .next (requestNmi_addsEvents fun hrun => ⟨⟨rfl, hrun⟩, fun _ _ => .inl rfl⟩)
  | hreset => exact .next (.none (hostReset_events s))
  | tick => exact .withDs fun d _ => .next (clockTick_addsEvents d s)
  | speedchg k => exact .withDs fun d _ => .unless fun _ => .none rfl
  | smrd a => exact .withDs fun d _ => .next (.none rfl)
  | smwr a v => exact .withDs fun d _ => .next (.none (secWrite_events s a v))
  | siord p => exact .withDs fun d _ => .next (.one rfl rfl)
  | drvsel high v => exact .withDs fun d _ => .next (.one rfl fun _ _ => .inr (.inr (.inl ⟨high, rfl⟩)))
  | gideact p v =>
    have hforward : EventSource (.gideact p v) s (.chipIoWrite p v) := fun _ _ => .inr (.inl rfl)
    refine .withDs fun d _ => .next (AddsEvents.emit ?_ hforward)
    split
    · rw [glowLoad_gide]
      exact .oneIf rfl fun _ => .inr ⟨p, v, rfl⟩
    · exact .none rfl
  | dmaact p v =>
    refine .withDs fun d hd => ?_
    cases hv : d.variant with
    | base =>
      exact .next (.one rfl fun _ hi => absurd (hi.symm.trans (dmaact_not_base hd hv)) (by decide))
    | ext e =>
      rw [glowLoad_dma]
      exact .next (.oneIf rfl fun _ => .inr ⟨p, v, rfl⟩)
  | pagewr high v =>
    refine .withDs fun d _ => ?_
    cases d.variant with
    | base => exact .refused
    | ext e => exact .next (.one rfl fun _ _ => .inr (.inr (.inr ⟨high, rfl⟩)))
  | siowr p v => exact .withDs fun d _ => .next (.one rfl fun _ _ => .inl rfl)
  | loopenter =>
    exact .withDs fun d _ => .guarded fun _ => .one (e := .secReset d.resetVector) (by rw [enterLoop_eq]; rfl) rfl
  | wexit => exact .withDs fun d _ => .guarded fun _ => .none rfl
  | sfault => exact .withDs fun d _ => .guarded fun _ => containFault_addsEvents s

/-- Settles O57, one event at a time. -/
theorem eventsComeFromTheirOperations : Obligations.EventsComeFromTheirOperations := by
  intro i s t hexec
  obtain ⟨es, hes, hsource⟩ := exec_addsEvents i s t hexec
  refine ⟨es, hes, fun _ => hsource _, fun _ => hsource _, hsource _, fun hx => (hsource _ hx).1, hsource _, hsource _,
    fun _ => hsource _, fun hwf hi => ⟨fun hx => (hsource _ hx).2 hwf hi, fun _ hx => hsource _ hx hwf hi,
      fun _ _ hx => hsource _ hx hwf hi⟩⟩

end Sys2Proof.Machine
end

/-! PROOFS. The bridge family (43_bridge.md): the control write that raises no bit, that is gated, and that moves the clock-rate
bit (R142, R144, R186, R242), the secondary CPU's memory accesses (R146, R147, R182 to R184), its ports (R148, R149), and the
drive, disk-controller and page ports (R161, R166, R181). -/

section

namespace Sys2Proof

open Sys2Proof.Machine

/-! ## Held bits (R242) -/

theorem CtrlBit.index_lt (b : CtrlBit) : b.index < 4 := by
  cases b <;> decide

/-- R242: where every low bit of the byte is in the latch already, nothing rises. -/
theorem decodeEdges_of_held {old : BitVec 4} {v : Byte}
    (h : ∀ k, k < 4 → v.getLsbD k = true → old.getLsbD k = true) (order : List CtrlBit) : decodeEdges order old v = [] := by
  refine List.eq_nil_iff_forall_not_mem.2 fun b hb => ?_
  obtain ⟨_, hset, hclear⟩ := mem_decodeEdges.1 hb
  have hold : old.getLsbD b.index = true := h b.index b.index_lt hset
  exact absurd (hold.symm.trans hclear) (by decide)

/-! ## The rate of a clock level, the mask of a drive byte, the bank of a page byte (R166, R181, R186) -/

/-- The rate of a clock level. -/
def ExtParams.rateOf (e : ExtParams) (level : Bool) : KHz := if level then e.speedB else e.speedA

theorem extractLsb'_four_eq_zero_iff (v : Byte) : v.extractLsb' 0 4 = 0 ↔ v.toNat % 16 = 0 := by
  simp [← BitVec.toNat_inj]

theorem getLsbD_extractLsb'_four (v : Byte) {i : Nat} (h : i < 4) : (v.extractLsb' 0 4).getLsbD i = v.getLsbD i := by
  simp [h]

/-- R181: layout `A` has the bank in bits 6:0. -/
theorem PageLayout.bank_A_toNat (v : Byte) : (PageLayout.A.bank v).toNat = v.toNat % 128 := by
  simp [PageLayout.bank]

/-- R181: layout `B` has the bank in bits 7:1. -/
theorem PageLayout.bank_B_toNat (v : Byte) : (PageLayout.B.bank v).toNat = v.toNat / 2 := by
  have hv : v.toNat < 256 := v.isLt
  simp only [PageLayout.bank, BitVec.extractLsb'_toNat]
  omega

end Sys2Proof

namespace Sys2Proof.Machine

/-! ## The control port the disk station is first to claim (R142, R144, R242) -/

/-- R64, R144: the first to claim its control port, the disk station takes the control write. -/
theorem exec_dsctl_of_first {s : State} {d : DsParams} {before after : List Module} {m : Module} (high v : Byte)
    (hd : s.cfg.ds = some d) (hs : s.mods = before ++ m :: after) (hk : m.params.kind = .ds)
    (hc : m.connected d = true ∨ d.ctrlNeedsConnect = false)
    (hb : ∀ x ∈ before, x.claimIoWrite s (mkPort high d.ctrlPort) = none) :
    exec (.dsctl high v) s = .next ((controlWrite d s v).setAnswer (.hostWrite .handledWritten)) := by
  have hm : m.claimIoWrite s (mkPort high d.ctrlPort) = some .control :=
    Module.claimIoWrite_control hd hk (portLow_mkPort _ _) hc
  calc exec (.dsctl high v) s = .next (ioWrite s (mkPort high d.ctrlPort) v) := withDs_some hd _
    _ = _ := by rw [ioWrite_control hd (ioWriteClaim_of_first hs hb hm)]

/-- R242: with nothing rising, the actions are the latch alone. -/
theorem controlActions_of_held (d : DsParams) {s : State} {v : Byte}
    (h : ∀ k, k < 4 → v.getLsbD k = true → s.latch.getLsbD k = true) :
    controlActions d s v = s.setLatch (v.extractLsb' 0 4) := by
  rw [controlActions, decodeEdges_of_held h]
  rfl

theorem controlActions_eq_executeActions {s : State} {d : DsParams} (hd : s.cfg.ds = some d) (v : Byte) :
    controlActions d s v = (s.setLatch (v.extractLsb' 0 4)).executeActions (decodeEdges d.edgeOrder s.latch v) :=
  (executeActions_eq (s := s.setLatch (v.extractLsb' 0 4)) hd _).symm

/-- R142: the actions take the latch and leave the clock level, the rate and the counters. -/
theorem controlActions_frame (d : DsParams) (s : State) (v : Byte) :
    (controlActions d s v).latch = v.extractLsb' 0 4 ∧ (controlActions d s v).clkSel = s.clkSel ∧
      (controlActions d s v).speedKHz = s.speedKHz ∧ ∀ i, (controlActions d s v).glow i = s.glow i := by
  obtain ⟨_, _, _, _, h, _⟩ := foldl_runAction_spec (decodeEdges d.edgeOrder s.latch v) (s.setLatch (v.extractLsb' 0 4))
  rw [controlActions, h]
  exact ⟨rfl, rfl, rfl, fun i => by cases i <;> rfl⟩

/-- R123, R186: no action emits `SecSpeed`. -/
theorem controlActions_no_secSpeed (d : DsParams) (s : State) (v : Byte) :
    ∃ es, (controlActions d s v).events = s.events ++ es ∧ ∀ k, Event.secSpeed k ∉ es := by
  obtain ⟨es, hev, hnmi⟩ := controlActions_events d s v
  refine ⟨es, hev, fun k hk => ?_⟩
  obtain ⟨hx, _⟩ := hnmi _ hk
  cases hx

/-- Settles O24: no bit rises, so no action runs, and the clock-rate bit does not act. -/
theorem heldControlBitsTriggerNothing : Obligations.HeldControlBitsTriggerNothing := by
  intro s d high v before after m hd hs hk hc hb hclk hheld
  rw [exec_dsctl_of_first high v hd hs hk hc hb, controlWrite_eq, controlActions_of_held d hheld,
    applyClockBit_unchanged (s := s.setLatch (v.extractLsb' 0 4)) hclk]

/-! ## The gated control port (R144) -/

/-- R144, C3: not connected, a disk station that gates its control port claims no write of it. -/
theorem Module.claimIoWrite_gated {s : State} {m : Module} {d : DsParams} {p : Port} (hd : s.cfg.ds = some d)
    (hgate : d.ctrlNeedsConnect = true) (hconn : m.connected d = false) (hk : m.params.kind = .ds) :
    m.claimIoWrite s p = none := by
  simp [Module.claimIoWrite, hk, hd, hgate, hconn]

/-- Settles O25: neither the gated disk station nor a ROM or RAM claims the port. -/
theorem gatedControlWriteIsNotHandled : Obligations.GatedControlWriteIsNotHandled := by
  intro s d high v _ hd hgate hconn hper
  have hnone : ∀ m ∈ s.mods, m.claimIoWrite s (mkPort high d.ctrlPort) = none := by
    intro m hm
    by_cases hk : m.params.kind = .ds
    · exact Module.claimIoWrite_gated hd hgate (State.not_connected hconn hd hm hk) hk
    · exact Module.claimIoWrite_rom_ram_none s _ hk (hper m hm)
  calc exec (.dsctl high v) s = .next (ioWrite s (mkPort high d.ctrlPort) v) := withDs_some hd _
    _ = _ := by rw [ioWrite_unclaimed (findSome?_none _ hnone)]

/-! ## The clock-rate bit (R186) -/

/-- R186: a clock-rate bit that differs takes the new level, the rate of that level with both counters, and `SecSpeed`. -/
theorem applyClockBit_changed {d : DsParams} {e : ExtParams} {s : State} {v : Byte} (he : d.variant = .ext e)
    (hf : d.fixedSpeed = none) (h : v.getLsbD e.clkBit.val ≠ s.clkSel) :
    applyClockBit d s v =
      (setSpeedTo d (s.setClkSel (v.getLsbD e.clkBit.val)) (e.rateOf (v.getLsbD e.clkBit.val))).emit
        (.secSpeed (e.rateOf (v.getLsbD e.clkBit.val))) := by
  simp only [applyClockBit, he, hf, if_neg h, ExtParams.rateOf]

/-- R165: a rescaled counter lasts as long at the new rate, in the fewest counts, and is dark exactly when it was. -/
theorem setSpeedTo_rescale {d : DsParams} {s : State} {k : KHz} (hm : d.afterglow = .rescale) (ho : s.speedKHz ≠ 0)
    (hk : k ≠ 0) (i : Indicator) :
    (∀ n, s.glow i * k.toNat ≤ n * s.speedKHz.toNat ↔ (setSpeedTo d s k).glow i ≤ n) ∧
      ((setSpeedTo d s k).glow i = 0 ↔ s.glow i = 0) := by
  have hold : 0 < s.speedKHz.toNat := toNat_pos_of_ne_zero ho
  rw [setSpeedTo_glow]
  exact ⟨fun n => glowAfterSpeed_le_iff hm hold n, glowAfterSpeed_eq_zero d _ _ _ (toNat_pos_of_ne_zero hk) hold⟩

/-- Settles O26: the rising bits' actions first, then the clock-rate bit, which acts only where it differs. -/
theorem clockBitSetsRate : Obligations.ClockBitSetsRate := by
  intro s d e high v before after m hd he hf hs hk hc hb
  obtain ⟨hlatch, hclk, hspeed, hglow⟩ := controlActions_frame d s v
  obtain ⟨es, hev, hno⟩ := controlActions_no_secSpeed d s v
  refine ⟨_, controlActions d s v, exec_dsctl_of_first high v hd hs hk hc hb, controlActions_eq_executeActions hd v, ?_⟩
  rw [controlWrite_eq]
  by_cases hbit : v.getLsbD e.clkBit.val = s.clkSel
  · have hsame : applyClockBit d (controlActions d s v) v = controlActions d s v := by
      refine applyClockBit_unchanged fun _ e' he' => ?_
      obtain rfl : e = e' := DsVariant.ext.inj (he.symm.trans he')
      exact hbit.trans hclk.symm
    rw [hsame]
    refine ⟨hclk.trans hbit.symm, hlatch, rfl, fun _ => ⟨rfl, hspeed, hglow .gide, hglow .dma, fun k => ?_⟩,
      fun hne => absurd hbit hne⟩
    rw [State.setAnswer_events, hev, List.count_append, List.count_eq_zero_of_not_mem (hno k), Nat.add_zero]
  · rw [applyClockBit_changed he hf (hclk ▸ hbit)]
    refine ⟨rfl, hlatch, rfl, fun heq => absurd heq hbit, fun _ => ⟨rfl, rfl, ⟨es, hev, hno⟩, fun hkeep => ?_,
      fun hrescale hold hnew i => ?_⟩⟩
    · exact ⟨(glowAfterSpeed_keep hkeep _ _ _).trans (hglow .gide), (glowAfterSpeed_keep hkeep _ _ _).trans (hglow .dma)⟩
    · rw [← hglow i, ← hspeed]
      exact setSpeedTo_rescale (s := (controlActions d s v).setClkSel (v.getLsbD e.clkBit.val)) hrescale
        (hspeed ▸ hold) hnew i

/-! ## The secondary CPU's memory (R146, R147, R182, R183) -/

section SecondaryMemory

variable {s : State} {d : DsParams} {a : Addr}

/-- R182: the enabled page window holds the address, in `EXT`. -/
theorem State.pageHit_iff (hd : s.cfg.ds = some d) :
    s.pageHit a = true ↔ ∃ e, d.variant = .ext e ∧ s.pageEn = true ∧ a &&& 0xC000 = e.pageWindowBase := by
  refine ⟨fun h => ?_, fun ⟨e, he, hen, hbase⟩ => ?_⟩
  · obtain ⟨d', e, hd', he⟩ := pageHit_ext h
    obtain rfl : d = d' := Option.some.inj (hd.symm.trans hd')
    exact ⟨e, he⟩
  · simp only [State.pageHit, hd, Option.bind_some, DsParams.ext?, he, hen, hbase, Bool.true_and, beq_self_eq_true]

theorem State.pageHit_eq_false (hd : s.cfg.ds = some d)
    (h : ∀ e, d.variant = .ext e → s.pageEn = true → a &&& 0xC000 ≠ e.pageWindowBase) : s.pageHit a = false := by
  refine Bool.eq_false_iff.2 fun hhit => ?_
  obtain ⟨e, he, hen, hbase⟩ := (State.pageHit_iff hd).1 hhit
  exact h e he hen hbase

theorem secRead_page (h : s.pageHit a = true) : secRead s a = s.pageByte (pageIndex s.pageBank a) := if_pos h

theorem secRead_mem (h : s.pageHit a = false) : secRead s a = s.secByte a.toNat := if_neg (by simp [h])

theorem secWrite_page (h : s.pageHit a = true) (v : Byte) :
    secWrite s a v = s.setPageRam (s.pageRam.set (pageIndex s.pageBank a) v) := if_pos h

theorem secWrite_mem (h : s.pageHit a = false) (v : Byte) : secWrite s a v = s.setSecMem (s.secMem.set a.toNat v) :=
  if_neg (by simp [h])

theorem exec_smrd (hd : s.cfg.ds = some d) (a : Addr) : exec (.smrd a) s = .next (s.setAnswer (.secRead (secRead s a))) :=
  withDs_some hd _

theorem exec_smwr (hd : s.cfg.ds = some d) (a : Addr) (v : Byte) :
    exec (.smwr a v) s = .next ((secWrite s a v).setAnswer .silent) :=
  withDs_some hd _

end SecondaryMemory

/-- Settles O37: the page window decides which array is read. -/
theorem secondaryReadAnswersPageOrMemory : Obligations.SecondaryReadAnswersPageOrMemory := by
  intro s d a hd
  refine ⟨fun e he hen hbase => ?_, fun hmiss => ?_⟩
  · have hhit : s.pageHit a = true := (State.pageHit_iff hd).2 ⟨e, he, hen, hbase⟩
    rw [exec_smrd hd, secRead_page hhit, pageIndex_eq]
  · rw [exec_smrd hd, secRead_mem (State.pageHit_eq_false hd hmiss)]

/-- Settles O38: the page window decides which array is written, and a write sets one byte of it. -/
theorem secondaryWriteStoresOneByte : Obligations.SecondaryWriteStoresOneByte := by
  intro s d a v hd
  refine ⟨fun e he hen hbase => ⟨_, exec_smwr hd a v, ?_⟩, fun hmiss => ⟨_, exec_smwr hd a v, ?_⟩⟩
  · have hhit : s.pageHit a = true := (State.pageHit_iff hd).2 ⟨e, he, hen, hbase⟩
    rw [secWrite_page hhit, pageIndex_eq]
    exact ⟨rfl, readByte_set_same _ _ _ _, fun k hk => readByte_set_other _ _ _ hk.symm⟩
  · rw [secWrite_mem (State.pageHit_eq_false hd hmiss)]
    exact ⟨rfl, readByte_set_same _ _ _ _, fun k hk => readByte_set_other _ _ _ hk.symm⟩

/-! ## The secondary CPU's ports (R148, R149, R161, R166, R181) -/

section SecondaryPorts

variable {s : State} {d : DsParams}

theorem exec_siord (hd : s.cfg.ds = some d) (p : Port) : exec (.siord p) s =
    .next ((s.emit (.chipIoRead p)).setAnswer (.secRead (Config.chipIoRead s.arrivals p))) :=
  withDs_some hd _

theorem exec_siowr (hd : s.cfg.ds = some d) (p : Port) (v : Byte) :
    exec (.siowr p v) s = .next ((s.emit (.chipIoWrite p v)).setAnswer .silent) :=
  withDs_some hd _

theorem exec_drvsel (hd : s.cfg.ds = some d) (high v : Byte) : exec (.drvsel high v) s =
    .next (((s.setDriveMask (v.extractLsb' 0 4)).emit (.chipIoWrite (mkPort high d.drvselPort) v)).setAnswer .silent) :=
  withDs_some hd _

theorem exec_gideact_present (hd : s.cfg.ds = some d) (hg : d.gidePresent = true) (p : Port) (v : Byte) :
    exec (.gideact p v) s = .next (((glowLoad s .gide).emit (.chipIoWrite p v)).setAnswer .silent) := by
  simp only [exec, execGideact, withDs_some hd, if_pos hg]

theorem exec_pagewr_base (hd : s.cfg.ds = some d) (hv : d.variant = .base) (high v : Byte) :
    exec (.pagewr high v) s = .refused .noPageRegister := by
  simp only [exec, execPagewr, withDs_some hd, hv]

theorem exec_pagewr_ext {e : ExtParams} (hd : s.cfg.ds = some d) (he : d.variant = .ext e) (high v : Byte) :
    exec (.pagewr high v) s =
      .next (((s.setPage (e.pageLayout.enableBit v) (e.pageLayout.bank v)).emit
        (.chipIoWrite (mkPort high e.pagePort) v)).setAnswer .silent) := by
  simp only [exec, execPagewr, withDs_some hd, he]

end SecondaryPorts

/-- Settles O39. -/
theorem secondaryIoIsForwarded : Obligations.SecondaryIoIsForwarded :=
  fun _ _ p v hd => ⟨⟨_, exec_siord hd p⟩, exec_siowr hd p v⟩

/-- R166: the selected drive is the first one whose mask bit is set. -/
theorem State.driveSelect_eq_find? (s : State) : s.driveSelect = Fin.find? fun i : Fin 4 => s.driveMask.getLsbD i.val := by
  simp [State.driveSelect, Fin.find?_succ, apply_ite (Option.map Fin.succ), Option.guard]

theorem State.driveSelect_eq_some_iff (s : State) (i : Fin 4) : s.driveSelect = some i ↔
    s.driveMask.getLsbD i.val = true ∧ ∀ j, j < i.val → s.driveMask.getLsbD j = false := by
  rw [s.driveSelect_eq_find?, Fin.find?_eq_some_iff]
  exact and_congr_right fun _ => ⟨fun h j hj => h ⟨j, hj.trans i.isLt⟩ hj, fun h j hj => h j.val hj⟩

theorem State.driveSelect_eq_none_iff (s : State) : s.driveSelect = none ↔ s.driveMask = 0 := by
  rw [s.driveSelect_eq_find?, Fin.find?_eq_none_iff]
  refine ⟨fun h => BitVec.eq_of_getLsbD_eq fun j hj => ?_, fun h i => by simp [h]⟩
  rw [h ⟨j, hj⟩]
  simp

/-- Settles O40: the drive in effect is read off the stored mask, whose bits are the byte's. -/
theorem driveSelectTakesLowestBit : Obligations.DriveSelectTakesLowestBit := by
  intro s d high v hd
  refine ⟨_, exec_drvsel hd high v, rfl, ?_, fun i => ?_⟩
  · exact (State.driveSelect_eq_none_iff _).trans (extractLsb'_four_eq_zero_iff v)
  · have hbit : ∀ j, j ≤ i.val → (v.extractLsb' 0 4).getLsbD j = v.getLsbD j :=
      fun j hj => getLsbD_extractLsb'_four v (by omega)
    exact (State.driveSelect_eq_some_iff _ i).trans
      (and_congr (hbit i.val le_rfl).congr_left (forall₂_congr fun j hj => (hbit j hj.le).congr_left))

/-- Settles O41: the load and its `Dirty` are `glowLoad`'s. -/
theorem gideActivationLoadsCounter : Obligations.GideActivationLoadsCounter := by
  intro s d p v hd hg
  rw [exec_gideact_present hd hg, glowLoad_gide]
  rfl

/-- Settles O43: the fields are those of the layout, and `BASE` has no page register. -/
theorem pageWriteSetsBothFields : Obligations.PageWriteSetsBothFields := by
  intro s d high v hd
  refine ⟨fun hv => exec_pagewr_base hd hv high v, fun e he => ⟨_, exec_pagewr_ext hd he high v, rfl, fun hl => ?_,
    fun hl => ?_⟩⟩
  · rw [hl]
    exact ⟨rfl, PageLayout.bank_A_toNat v⟩
  · rw [hl]
    exact ⟨rfl, PageLayout.bank_B_toNat v⟩

end Sys2Proof.Machine
end

/-! PROOFS. The peripheral glue family (44_peripheral_glue.md): what one tick does (R160, R162, R204), and how long an
activated disk-controller indicator stays on (R161 to R163). -/

section

namespace Sys2Proof

/-- R28: the DMA counter exists in `EXT` alone. -/
theorem DsParams.ext?_isSome_iff (d : DsParams) : d.ext?.isSome = true ↔ d.variant ≠ .base := by
  cases hv : d.variant <;> simp [DsParams.ext?, hv]

/-- R27: the prescaler counts modulo 8. -/
theorem phase_succ_eq_ofNat (p : BitVec 3) : p + 1 = BitVec.ofNat 3 ((p.toNat + 1) % 8) :=
  BitVec.eq_of_toNat_eq (by simp [BitVec.toNat_add])

/-- R160: the prescaler wraps after phase 7. -/
theorem phase_succ_eq_zero_iff (p : BitVec 3) : p + 1 = 0 ↔ p.toNat = 7 := by
  have hp : p.toNat < 8 := p.isLt
  rw [← BitVec.toNat_inj, phase_succ_eq_ofNat, BitVec.toNat_ofNat]
  change (p.toNat + 1) % 8 % 8 = 0 ↔ p.toNat = 7
  omega

end Sys2Proof

namespace Sys2Proof.Machine

/-! ## One tick (R160, R162, R204) -/

theorem exec_tick {s : State} {d : DsParams} (hd : s.cfg.ds = some d) :
    exec .tick s = .next ((clockTick d s).setAnswer .silent) :=
  withDs_some hd _

/-- Settles O44: the tick's own law, with the wrap and the `EXT` variant in the statement's terms. -/
theorem tickAdvancesPrescalerAndCounters : Obligations.TickAdvancesPrescalerAndCounters := by
  intro s d hd
  obtain ⟨es, htick, hes⟩ := clockTick_spec d s
  have hdma : (if d.ext?.isSome then s.dmaGlow - 1 else s.dmaGlow) =
      if d.variant = .base then s.dmaGlow else s.dmaGlow - 1 := by
    rw [if_congr d.ext?_isSome_iff rfl rfl, ite_not]
  simp only [phase_succ_eq_zero_iff, DsParams.ext?_isSome_iff] at hes
  rw [exec_tick hd, htick, hes, hdma, phase_succ_eq_ofNat, ← List.append_assoc, ← List.append_assoc]
  rfl

/-! ## The disk-controller indicator (R161 to R163) -/

theorem clockTick_gideGlow {d : DsParams} (hg : d.gidePresent = true) (s : State) :
    (clockTick d s).gideGlow = s.gideGlow - 1 := by
  obtain ⟨_, h, _⟩ := clockTick_spec d s
  rw [h]
  exact if_pos hg

/-- R162: one `Dirty` exactly when the counter reaches 0; the other events of a tick are none of this indicator. -/
theorem clockTick_gideDirties {d : DsParams} (hg : d.gidePresent = true) (s : State) :
    (clockTick d s).events.count (.dirty .gide) =
      s.events.count (.dirty .gide) + if s.gideGlow = 1 then 1 else 0 := by
  obtain ⟨es, h, hes⟩ := clockTick_spec d s
  rw [h, hes]
  simp only [List.count_append, hg, true_and]
  split <;> split <;> split <;> simp

/-- R162: what a tick does to the indicator, and what stays as it was for the next word. -/
theorem step_tick_gide {s : State} {d : DsParams} {rest : List TxWord} (hd : s.cfg.ds = some d)
    (hg : d.gidePresent = true) (hin : s.inputs = txPack 0x5 0 0 :: rest) :
    ∃ t, step s = .next t ∧ t.cfg = s.cfg ∧ t.inputs = rest ∧ t.gideGlow = s.gideGlow - 1 ∧
      t.events.count (.dirty .gide) =
        s.events.count (.dirty .gide) + if s.gideGlow = 1 then 1 else 0 :=
  ⟨_, step_tick hd hin, clockTick_cfg d _, clockTick_inputs d _, clockTick_gideGlow hg _, clockTick_gideDirties hg _⟩

/-- R161: an activation of a dark indicator loads the full count and emits one `Dirty`; the forwarded write is none. -/
theorem step_gideact_dark {s : State} {d : DsParams} {w : TxWord} {rest : List TxWord} {p : Port} {v : Byte}
    (hd : s.cfg.ds = some d) (hg : d.gidePresent = true) (hw : decode s.cfg w = .ok (.gideact p v))
    (hin : s.inputs = w :: rest) (hdark : s.gideGlow = 0) :
    ∃ t, step s = .next t ∧ t.cfg = s.cfg ∧ t.inputs = rest ∧ t.gideGlow = s.speedKHz.toNat * 100 ∧
      t.events.count (.dirty .gide) = s.events.count (.dirty .gide) + 1 := by
  refine ⟨_, (step_decoded hin hw).trans (exec_gideact_present (s := s.arrive rest) hd hg p v), ?_⟩
  simp [glowLoad_gide, hdark]

/-- R162: `n` ticks take `n` from the counter, and emit one `Dirty` exactly when it was lit and they run it out. -/
theorem run_ticks_gide {d : DsParams} (hg : d.gidePresent = true) (n : Nat) :
    ∀ s : State, s.cfg.ds = some d → s.inputs = List.replicate n (txPack 0x5 0 0) →
      ∃ t, Host.Core.run core n s = .next t ∧ t.gideGlow = s.gideGlow - n ∧
        t.events.count (.dirty .gide) =
          s.events.count (.dirty .gide) + if 0 < s.gideGlow ∧ s.gideGlow ≤ n then 1 else 0 := by
  induction n with
  | zero =>
    intro s _ _
    exact ⟨s, rfl, rfl, by rw [if_neg (by omega), Nat.add_zero]⟩
  | succ n ih =>
    intro s hd hin
    rw [List.replicate_succ] at hin
    obtain ⟨s₁, hstep, hcfg, hinputs, hglow₁, hdirty₁⟩ := step_tick_gide hd hg hin
    obtain ⟨t, hrun, hglow, hdirty⟩ := ih s₁ (hcfg ▸ hd) hinputs
    refine ⟨t, by rw [run_succ hstep, hrun], by omega, ?_⟩
    rw [hdirty, hdirty₁, hglow₁]
    split <;> split <;> split <;> omega

/-- Settles O60: the activation loads `speed * 100` with one `Dirty`, and the ticks count it down. -/
theorem afterglowLastsExactlySpeedTimesHundred : Obligations.AfterglowLastsExactlySpeedTimesHundred := by
  intro n s d w p v hd hg hw hspeed hdark hin
  obtain ⟨s₁, hstep, hcfg, hinputs, hload, hdirty₁⟩ := step_gideact_dark hd hg hw hin hdark
  obtain ⟨t, hrun, hglow, hdirty⟩ := run_ticks_gide hg n s₁ (hcfg ▸ hd) hinputs
  have hpos : 0 < s.speedKHz.toNat := toNat_pos_of_ne_zero hspeed
  have hon : t.indicatorOn .gide = true ↔ t.gideGlow ≠ 0 := bne_iff_ne
  rw [hload] at hglow hdirty
  refine ⟨t, by rw [run_succ hstep, hrun], hglow, by rw [hon]; omega, ?_⟩
  rw [hdirty, hdirty₁]
  split <;> split <;> omega

end Sys2Proof.Machine
end

/-! PROOFS. The EXT variant family (45_variant_ext.md), the host's side of it: no host operation writes the secondary
side's private state, and only a control write sets the rate and with it the counters (R186, R208). -/

section

namespace Sys2Proof

/-- R140: the bridge window is the top of the secondary memory, so no port reaches below its base. -/
theorem bridgeMemBase_le_bridgeAddr (p : Port) : bridgeMemBase ≤ bridgeAddr p := by
  unfold bridgeAddr
  rw [Nat.or_assoc, Nat.and_or_distrib_right]
  exact Nat.left_le_or

end Sys2Proof

namespace Sys2Proof.Machine

/-! ## The secondary side's private state (R208) -/

/-- The paged RAM, the page register, the drive mask and the prescaler, which the host has no path to. -/
def State.privateRegisters (s : State) : Memory × Bool × BitVec 7 × BitVec 4 × BitVec 3 :=
  (s.pageRam, s.pageEn, s.pageBank, s.driveMask, s.div8)

/-- The speed and the afterglow counters, which it rescales (R165, R186). -/
def State.rates (s : State) : KHz × Nat × Nat := (s.speedKHz, s.gideGlow, s.dmaGlow)

/-- Everything of the secondary side but its lifecycle. -/
def State.secondaryData (s : State) : Memory × (Memory × Bool × BitVec 7 × BitVec 4 × BitVec 3) × KHz × Nat × Nat :=
  (s.secMem, s.privateRegisters, s.rates)

/-- What R208 leaves a host operation of the secondary side: the bytes of the bridge window, and to `DSCTL` the rates. -/
structure HostFrame (i : Instr) (s t : State) : Prop where
  belowBridge : ∀ a, a < bridgeMemBase → t.secByte a = s.secByte a
  registers : t.privateRegisters = s.privateRegisters
  rates : s.cfg.wf = true → i.wellFormed s.cfg = true → (∀ high v, i ≠ .dsctl high v) → t.rates = s.rates

theorem HostFrame.of_secondaryData {i : Instr} {s t : State} (h : t.secondaryData = s.secondaryData) :
    HostFrame i s t := by
  obtain ⟨hmem, hrest⟩ := Prod.mk.inj h
  obtain ⟨hregisters, hrates⟩ := Prod.mk.inj hrest
  exact ⟨fun a _ => congrArg (readByte .secMem · a) hmem, hregisters, fun _ _ _ => hrates⟩

/-! ## The host operations that leave it alone -/

theorem typeRead_secondaryData (s : State) (slot : Byte) : (typeRead s slot).secondaryData = s.secondaryData := by
  obtain ⟨_, h⟩ := typeRead_eq s slot
  rw [h]
  rfl

theorem ioRead_secondaryData (s : State) (p : Port) : (ioRead s p).secondaryData = s.secondaryData := by
  obtain ⟨_, _, h, _⟩ := ioRead_eq s p
  rw [h]
  rfl

theorem statusWrite_secondaryData (s : State) (slot v : Byte) :
    (statusWrite s slot v).secondaryData = s.secondaryData := by
  unfold statusWrite
  split
  · rfl
  · split <;> rfl

theorem runAction_secondaryData (s : State) (b : CtrlBit) : (runAction s b).secondaryData = s.secondaryData := by
  obtain ⟨_, _, _, _, h, _⟩ := runAction_spec s b
  rw [h]
  rfl

theorem hostReset_secondaryData (s : State) : (hostReset s).secondaryData = s.secondaryData := by
  rcases hostReset_cases s with ⟨_, h⟩ | ⟨_, _, h⟩ <;> rw [h] <;> rfl

/-! ## The I/O write, the one path to it (R141, R142, R186) -/

/-- R141: a byte written through the bridge lies in its window. -/
theorem bridgeByte_hostFrame (i : Instr) (s : State) (p : Port) (v : Byte) (o : WriteOutcome) :
    HostFrame i s ((s.setSecMem (s.secMem.set (bridgeAddr p) v)).setAnswer (.hostWrite o)) := by
  refine ⟨fun a ha => ?_, rfl, fun _ _ _ => rfl⟩
  exact readByte_set_other .secMem s.secMem v (lt_of_lt_of_le ha (bridgeMemBase_le_bridgeAddr p)).ne'

/-- R142, R186: a control write reaches the rates alone, and only a `DSCTL` carries one. -/
theorem controlWrite_hostFrame {i : Instr} {s : State} (d : DsParams) (v : Byte) (o : WriteOutcome)
    (hdsctl : s.cfg.wf = true → i.wellFormed s.cfg = true → ∃ high, i = .dsctl high v) :
    HostFrame i s ((controlWrite d s v).setAnswer (.hostWrite o)) := by
  obtain ⟨_, _, _, _, _, _, _, _, h, _⟩ := controlWrite_spec d s v
  refine ⟨fun a _ => by rw [h]; rfl, by rw [h]; rfl, fun hwf hi hne => ?_⟩
  obtain ⟨high, hi⟩ := hdsctl hwf hi
  exact absurd hi (hne high v)

theorem ioWrite_hostFrame {i : Instr} {s : State} {p : Port} {v : Byte}
    (h : s.cfg.wf = true → i.wellFormed s.cfg = true → ControlOnlyByDsctl i s.cfg p v) :
    HostFrame i s (ioWrite s p v) := by
  rcases ioWrite_cases s p v with ⟨_, hw⟩ | ⟨_, _, _, hw⟩ | ⟨d, hd, hp, hw⟩ <;> rw [hw]
  · exact .of_secondaryData rfl
  · exact bridgeByte_hostFrame i s p v _
  · exact controlWrite_hostFrame d v _ fun hwf hi => h hwf hi d hd hp

/-! ## Every host operation (R208) -/

/-- The host's operations one at a time: all but the I/O writes leave the secondary side's data as it is. -/
theorem exec_hostFrame {i : Instr} (hagent : i.agent = .host) (s : State) : NextSat (HostFrame i s) (exec i s) := by
  cases i with
  | mrd a => exact .next (.of_secondaryData rfl)
  | mwr a v => exact .next (.of_secondaryData rfl)
  | typerd slot => exact .next (.of_secondaryData (typeRead_secondaryData s slot))
  | brrd page high => exact .next (.of_secondaryData (ioRead_secondaryData s _))
  | iord p => exact .next (.of_secondaryData (ioRead_secondaryData s p))
  | statwr slot v => exact .next (.of_secondaryData (statusWrite_secondaryData s slot v))
  | dsctl high v =>
    exact .withDs fun d _ => .next (ioWrite_hostFrame fun _ _ => dsctl_controlOnlyByDsctl _ _ high v)
  | brwr page high v => exact .next (ioWrite_hostFrame fun hwf _ => brwr_controlOnlyByDsctl hwf page high v)
  | iowr p v => exact .next (ioWrite_hostFrame fun _ hi => iowr_controlOnlyByDsctl hi)
  | encpu => exact .withDs fun d _ => .next (.of_secondaryData (runAction_secondaryData s .enable))
  | stopcpu => exact .withDs fun d _ => .next (.of_secondaryData (runAction_secondaryData s .stop))
  | rstcpu => exact .withDs fun d _ => .next (.of_secondaryData (runAction_secondaryData s .reset))
  | nmicpu => exact .withDs fun d _ => .next (.of_secondaryData (runAction_secondaryData s .nmi))
  | hreset => exact .next (.of_secondaryData (hostReset_secondaryData s))
  | tick | speedchg | smrd | smwr | siord | drvsel | gideact | dmaact | pagewr | siowr | loopenter | wexit | sfault =>
    cases hagent

/-- Settles O54: the frame of every host operation, field by field. -/
theorem hostNeverWritesSecondaryPrivateState : Obligations.HostNeverWritesSecondaryPrivateState := by
  intro i s t hagent hexec
  obtain ⟨hbelow, hregisters, hrates⟩ := exec_hostFrame hagent s t hexec
  simp only [State.privateRegisters, Prod.mk.injEq] at hregisters
  obtain ⟨hpageRam, hpageEn, hpageBank, hdriveMask, hdiv8⟩ := hregisters
  refine ⟨hbelow, hpageRam, hpageEn, hpageBank, hdriveMask, hdiv8, fun hwf hi hne => ?_⟩
  have hkept := hrates hwf hi hne
  simp only [State.rates, Prod.mk.injEq] at hkept
  obtain ⟨hspeed, hgide, hdma⟩ := hkept
  exact ⟨hgide, hdma, hspeed⟩

end Sys2Proof.Machine
end

/-! PROOFS. The exceptions family (60_exceptions.md): no word of the host bus fails or is refused (R202), and the secondary
side, its run control and the clock leave the host's state alone (R208). -/

section

namespace Sys2Proof

/-! ## What a host word decodes to (R62, R64) -/

theorem classifyIoRead_agent (c : Config) (p : Port) : (classifyIoRead c p).agent = .host := by
  unfold classifyIoRead
  split
  · rfl
  · split <;> rfl

theorem classifyIoWrite_agent (c : Config) (p : Port) (v : Byte) : (classifyIoWrite c p v).agent = .host := by
  by_cases hstatus : portLow p = c.statusPort
  · rw [classifyIoWrite_status hstatus]
    rfl
  · rw [classifyIoWrite, if_neg hstatus]
    cases c.ds with
    | none => rfl
    | some d =>
      dsimp only
      split
      · rfl
      · split <;> rfl

/-- R62, R67: a word of kinds 0 to 4 spells an operation of the host, and one that the configuration has. -/
theorem decode_hostWord (c : Config) {w : TxWord} (h : (txKind w).toNat < 5) :
    ∃ i, decode c w = .ok i ∧ i.agent = .host ∧ i.wellFormed c = true := by
  have hk : txKind w = 0x0 ∨ txKind w = 0x1 ∨ txKind w = 0x2 ∨ txKind w = 0x3 ∨ txKind w = 0x4 := by
    generalize txKind w = k at *
    revert k
    decide
  rw [← txPack_fields w]
  rcases hk with h | h | h | h | h <;> rw [h]
  · exact ⟨_, decode_memRead c _ _, rfl, rfl⟩
  · exact ⟨_, decode_memWrite c _ _, rfl, rfl⟩
  · exact ⟨_, decode_ioRead c _ _, classifyIoRead_agent c _, (classifyIoRead_canonicalWord c _).wellFormed⟩
  · exact ⟨_, decode_ioWrite c _ _, classifyIoWrite_agent c _ _, (classifyIoWrite_canonicalWord c _ _).wellFormed⟩
  · exact ⟨_, decode_hostReset c _ _, rfl, rfl⟩

end Sys2Proof

namespace Sys2Proof.Machine

/-! ## Every host transaction completes (R202) -/

theorem withDs_completes {s : State} (hds : s.cfg.ds.isSome = true) (f : DsParams → State) :
    ∃ t, withDs s (fun d => .next (f d)) = .next t := by
  obtain ⟨d, hd⟩ := Option.isSome_iff_exists.1 hds
  exact ⟨f d, withDs_some hd _⟩

/-- R202: the host's operations have no enabling condition and no fault; those of the disk station need one present. -/
theorem exec_host_completes {i : Instr} {s : State} (hagent : i.agent = .host) (hi : i.wellFormed s.cfg = true) :
    ∃ t, exec i s = .next t := by
  cases i with
  | mrd | mwr | typerd | brrd | iord | statwr | brwr | iowr | hreset => exact ⟨_, rfl⟩
  | dsctl | encpu | stopcpu | rstcpu | nmicpu => exact withDs_completes hi _
  | tick | speedchg | smrd | smwr | siord | drvsel | gideact | dmaact | pagewr | siowr | loopenter | wexit | sfault =>
    cases hagent

/-- Settles O6: the word decodes to a host operation that the configuration has, and that one completes. -/
theorem hostTransactionsAlwaysComplete : Obligations.HostTransactionsAlwaysComplete := by
  intro s w rest hin hkind
  obtain ⟨i, hdecode, hagent, hi⟩ := decode_hostWord s.cfg hkind
  rw [step_decoded hin hdecode]
  exact exec_host_completes (s := s.arrive rest) hagent hi

/-! ## The other agents and the host side (R208) -/

/-- R208: an operation that commutes with replacing the host side commutes with replacing it by itself, so it keeps it. -/
theorem exec_hostSide {i : Instr} (hi : i.agent ≠ .host) (s : State) :
    NextSat (fun t => t.hostSide = s.hostSide) (exec i s) := by
  intro t hexec
  have hcomm : exec i s = mapNext (·.withHostSide s.hostSide) (exec i s) := exec_withHostSide s s.hostSide hi
  rw [hexec] at hcomm
  have hself : t = t.withHostSide s.hostSide := Host.Outcome.next.inj hcomm
  rw [hself, State.withHostSide_hostSide]

/-- R128, R208: in any configuration, the secondary CPU and the clock go through shared operations that keep the
lifecycle. -/
theorem exec_lifecycle {i : Instr} (hhost : i.agent ≠ .host) (hrun : i.agent ≠ .runControl) (s : State) :
    NextSat (fun t => t.lifecycle = s.lifecycle) (exec i s) := by
  cases i with
  | mrd | mwr | typerd | brrd | iord | statwr | dsctl | brwr | iowr => exact absurd rfl hhost
  | encpu | stopcpu | rstcpu | nmicpu | hreset => exact absurd rfl hhost
  | loopenter | wexit | sfault => exact absurd rfl hrun
  | tick => exact .withDs fun d _ => .next (clockTick_lifecycle d s)
  | speedchg k => exact .withDs fun d _ => .unless fun _ => rfl
  | smrd | siord | drvsel | siowr => exact .withDs fun d _ => .next rfl
  | smwr a v => exact .withDs fun d _ => .next (secWrite_lifecycle s a v)
  | gideact p v =>
    refine .withDs fun d _ => .next ?_
    cases d.gidePresent with
    | true => exact glowLoad_lifecycle s .gide
    | false => rfl
  | dmaact p v =>
    refine .withDs fun d _ => ?_
    cases d.variant with
    | base => exact .next rfl
    | ext e => exact .next (glowLoad_lifecycle s .dma)
  | pagewr high v =>
    refine .withDs fun d _ => ?_
    cases d.variant with
    | base => exact .refused
    | ext e => exact .next rfl

/-- Settles O53. -/
theorem secondarySideNeverWritesHostSide : Obligations.SecondarySideNeverWritesHostSide := by
  intro i s t hhost hexec
  exact ⟨exec_hostSide hhost s t hexec, fun hrun => exec_lifecycle hhost hrun s t hexec⟩

end Sys2Proof.Machine
end

/-! PROOFS. The host reset whole (70_reset_and_hazards.md R230), and the words of 95_test_vectors.md under CFG-T. -/

section

namespace Sys2Proof.Machine

/-! ## The host reset as an exact next state (R230) -/

/-- R230 without a station: there is no latch to clear and no secondary system to stop. -/
theorem exec_hreset_noStation {s : State} (hd : s.cfg.ds = none) :
    exec .hreset s = .next ((s.setMods (resetModules s.mods)).setAnswer .silent) := by
  rcases hostReset_cases s with ⟨_, hreset⟩ | ⟨d, hd', _⟩
  · exact congrArg (fun t => Host.Outcome.next (t.setAnswer .silent)) hreset
  · cases hd.symm.trans hd'

/-- R230 with a station (D11, D19): the latch is cleared as a value, so no action runs. -/
theorem exec_hreset_station {s : State} {d : DsParams} (hd : s.cfg.ds = some d) :
    exec .hreset s = .next ((((s.setMods (resetModules s.mods)).setLatch 0).setRunLevel
      (if d.hostResetStops then .down else s.runLevel)).setAnswer .silent) := by
  rcases hostReset_cases s with ⟨hd', _⟩ | ⟨d', hd', hreset⟩
  · cases hd.symm.trans hd'
  · obtain rfl : d = d' := Option.some.inj (hd.symm.trans hd')
    exact congrArg (fun t => Host.Outcome.next (t.setAnswer .silent)) hreset

/-- Settles O46: the setters of the two rules above write exactly the named fields. -/
theorem hostResetRestoresStatusAndLatch : Obligations.HostResetRestoresStatusAndLatch := by
  intro s
  exact ⟨fun hd => exec_hreset_noStation hd, fun d hd => exec_hreset_station hd⟩

end Sys2Proof.Machine

namespace Sys2Proof

/-! ## Words of the test vectors (R60 to R65, R67, R68) -/

/-- R68: CFG-T meets R5, so the table's number of a canonical word decodes to its operation. -/
theorem decodeTableWord_of_encode {nbits w : Nat} {i : Instr} (hw : encode .cfgT i = some (txWordOf nbits w))
    (hi : i.wellFormed .cfgT = true) (ht : i.isTransaction = true) : decodeTableWord nbits w = some i := by
  obtain ⟨w', hw', hdecode⟩ := decodeInvertsEncode .cfgT i (by decide) hi ht
  obtain rfl : txWordOf nbits w = w' := Option.some.inj (hw.symm.trans hw')
  rw [decodeTableWord, hdecode]

theorem decodeTableWord_of_refused {nbits w : Nat} {r : DecodeRefusal}
    (hdecode : decode .cfgT (txWordOf nbits w) = .error r) : decodeTableWord nbits w = none := by
  rw [decodeTableWord, hdecode]

/-- Settles O4: ten of the words are canonical, and the last is `SPEEDCHG 0` (R67). -/
theorem tableWordsDecode : Obligations.TableWordsDecode := by
  have hspeedZero : decodeTableWord 32 0x6000000 = none := decodeTableWord_of_refused (decode_speedChange .cfgT 0 0)
  refine ⟨?_, ?_, ?_, ?_, ?_, ?_, ?_, ?_, ?_, ?_, hspeedZero⟩
  all_goals exact decodeTableWord_of_encode (by decide) (by decide) (by decide)

end Sys2Proof

end
